-- ==== Sys2Proof/Word.lean ====
section
/-! DEFINITION. The value types of the core (00_scope.md R15): `u32`, `u8`, `u16` and the lengths and indices, which are `Nat`.
`add32` of R16 is the `+` of `BitVec 32`: unsigned, modulo 2^32. -/

namespace Sys2Proof

/-- `u32`: a working register, a block word, a constant (R15, R21). -/
abbrev Word := BitVec 32

/-- `u8`: a byte of a message, of the padded stream, of a digest (R15). -/
abbrev Byte := BitVec 8

/-- `u16`: one code unit of a string operand (R15, R100). -/
abbrev CodeUnit := BitVec 16

end Sys2Proof
end

