-- ==== Sys2Proof/Config.lean ====
section
/-! DEFINITION. What one instance of the core fixes (00_scope.md R6) and the values the spec leaves without a number.
The parameters are data of the instance (`Params`, held in `State` and written by nothing), so that a claim about every state
is a claim about every value of them. The `opaque` constants have no body: no proof can see their value. -/

namespace Sys2Proof

/-- `P_UTF8_LONE_SURR` (R6, R105): what the UTF-8 encoder emits for an unpaired surrogate. -/
inductive LoneSurr where
  | threeByte
  | replacement
  deriving DecidableEq, Repr, Inhabited

/-- The granularity of an operation (45_sequencer.md R222: "Granularity is free").
`operation`: all transitions of an operation are merged into the one that accepts it (R210).
`phase`: the transitions of R213, one a step. DESIGN CHOICE, log 3. -/
inductive Granularity where
  | operation
  | phase
  deriving DecidableEq, Repr, Inhabited

/-- The constants of one instance (R6, R29: "constants of an instance, not registers: nothing writes them"). -/
structure Params where
  /-- `P_MAX_MSG_BYTES`: the largest message the instance accepts; `none` is unbounded (R6, D6). -/
  maxMsgBytes : Option Nat
  /-- `P_UTF8_LONE_SURR` (R6, R105, D7). -/
  loneSurr : LoneSurr
  /-- Not a parameter of the spec: which of the two views of R210 and R222 the instance shows. DESIGN CHOICE, log 3. -/
  granularity : Granularity
  deriving DecidableEq, Repr

/-- The value of `P_UTF8_LONE_SURR` of the instance after reset: the spec gives no default (R6). DESIGN CHOICE, log 2. -/
opaque Config.utf8LoneSurr : LoneSurr

/-- What a 32-bit register that "holds no value" (10_state.md R34) holds, by register. DESIGN CHOICE, log 1. -/
opaque Config.noWord : Nat → Word

/-- What a counter that "holds no value" (R34) holds, by counter. DESIGN CHOICE, log 1. -/
opaque Config.noNat : Nat → Nat

/-- What a byte of an output buffer that "holds no value" (R34) holds, by place. DESIGN CHOICE, log 1. -/
opaque Config.noByte : Nat → Byte

/-- What `OP` holds while it "holds no value" (R34). DESIGN CHOICE, log 1. -/
opaque Config.noOp : BitVec 3

/-- What `ENCOUT` holds while it "holds no value" (R34). DESIGN CHOICE, log 1. -/
opaque Config.noBytes : List Byte

/-- What the latched string operand holds while it "holds no value" (R34). DESIGN CHOICE, log 1. -/
opaque Config.noUnits : List CodeUnit

/-- The parameters of the instance after reset: unbounded messages (R6: "default unbounded"), an unknown choice for unpaired
surrogates (R6: "no default", log 2), the transitions of R213 one a step (log 3). -/
def Params.default : Params :=
  { maxMsgBytes := none, loneSurr := Config.utf8LoneSurr, granularity := .phase }

end Sys2Proof
end

