-- ==== Sys2Proof/Syntax.lean ====
section
/-! DEFINITION. The syntax of the core: its requests (30_encoding.md R70 to R73), its micro-step selectors (R74, R77), and `Instr`,
one constructor for each of the 118 rows of spec/opcode_table.json. The six commands carry their whole operand (R70: "The whole
operand belongs to the request"); a micro-step has no operand: its row fixes everything (R77). -/

namespace Sys2Proof

/-- The names of the working registers, `x[0] = a` to `x[3] = d` (10_state.md R21). -/
inductive RegName where
  | a
  | b
  | c
  | d
  deriving DecidableEq, Repr, Inhabited

/-- The compression algorithm, `OP[0]` (R71). -/
inductive Alg where
  | md5
  | md4
  deriving DecidableEq, Repr, Inhabited

/-- The operand of a request (R72): BYTES, a sequence of `u8`, or STRING, a sequence of `u16` code units. -/
inductive Operand where
  | bytes (m : List Byte)
  | string (u : List CodeUnit)
  deriving DecidableEq, Repr

/-- A request: the 3-bit command code and its whole operand (R70, R71). -/
structure Request where
  op : BitVec 3
  operand : Operand
  deriving DecidableEq, Repr

/-- What an instruction is spelled by: a request of format CMD3 (R70), or a selector {ALG, step} of format USTEP7 (R74). The two
formats live in two places (the request port, the sequencer), so the place says which one a code belongs to. -/
inductive Code where
  | cmd (r : Request)
  | ustep (sel : BitVec 7)
  deriving DecidableEq, Repr

/-- A response (R73): (`DIGEST`, `HEX`) of a digest command, `ENCOUT` of an encode-only command. -/
inductive Response where
  | digest (bytes : Vector Byte 16) (hex : Vector Byte 32)
  | encoded (bytes : List Byte)
  deriving DecidableEq, Repr

/-- The instructions: one constructor for each row of the opcode table. -/
inductive Instr where
  /-- `MD5B`, `OP` 000 (R160). -/
  | md5b (m : List Byte)
  /-- `MD4B`, `OP` 001 (R190). -/
  | md4b (m : List Byte)
  /-- `MD5S`, `OP` 010 (R161). -/
  | md5s (u : List CodeUnit)
  /-- `NTLM`, `OP` 011 (R191). -/
  | ntlm (u : List CodeUnit)
  /-- `ENC8`, `OP` 110 (R108). -/
  | enc8 (u : List CodeUnit)
  /-- `ENC16`, `OP` 111 (R109). -/
  | enc16 (u : List CodeUnit)
  -- MD5 round 1 (R146)
  | md5Step0
  | md5Step1
  | md5Step2
  | md5Step3
  | md5Step4
  | md5Step5
  | md5Step6
  | md5Step7
  | md5Step8
  | md5Step9
  | md5Step10
  | md5Step11
  | md5Step12
  | md5Step13
  | md5Step14
  | md5Step15
  -- MD5 round 2 (R147)
  | md5Step16
  | md5Step17
  | md5Step18
  | md5Step19
  | md5Step20
  | md5Step21
  | md5Step22
  | md5Step23
  | md5Step24
  | md5Step25
  | md5Step26
  | md5Step27
  | md5Step28
  | md5Step29
  | md5Step30
  | md5Step31
  -- MD5 round 3 (R148)
  | md5Step32
  | md5Step33
  | md5Step34
  | md5Step35
  | md5Step36
  | md5Step37
  | md5Step38
  | md5Step39
  | md5Step40
  | md5Step41
  | md5Step42
  | md5Step43
  | md5Step44
  | md5Step45
  | md5Step46
  | md5Step47
  -- MD5 round 4 (R149)
  | md5Step48
  | md5Step49
  | md5Step50
  | md5Step51
  | md5Step52
  | md5Step53
  | md5Step54
  | md5Step55
  | md5Step56
  | md5Step57
  | md5Step58
  | md5Step59
  | md5Step60
  | md5Step61
  | md5Step62
  | md5Step63
  -- MD4 round 1 (R177)
  | md4Step0
  | md4Step1
  | md4Step2
  | md4Step3
  | md4Step4
  | md4Step5
  | md4Step6
  | md4Step7
  | md4Step8
  | md4Step9
  | md4Step10
  | md4Step11
  | md4Step12
  | md4Step13
  | md4Step14
  | md4Step15
  -- MD4 round 2 (R178)
  | md4Step16
  | md4Step17
  | md4Step18
  | md4Step19
  | md4Step20
  | md4Step21
  | md4Step22
  | md4Step23
  | md4Step24
  | md4Step25
  | md4Step26
  | md4Step27
  | md4Step28
  | md4Step29
  | md4Step30
  | md4Step31
  -- MD4 round 3 (R179)
  | md4Step32
  | md4Step33
  | md4Step34
  | md4Step35
  | md4Step36
  | md4Step37
  | md4Step38
  | md4Step39
  | md4Step40
  | md4Step41
  | md4Step42
  | md4Step43
  | md4Step44
  | md4Step45
  | md4Step46
  | md4Step47
  deriving DecidableEq, Repr

end Sys2Proof
end

