-- ==== Sys2Proof/Machine/State.lean ====
section
/-! DEFINITION. The state of one instance of the core, plain data, and its value after reset (10_state.md). A register that "holds
no value" (R34) holds an uninterpreted constant of `Config` (log 1). -/

namespace Sys2Proof.Machine

/-- `PHASE` (10_state.md R27, 45_sequencer.md R213). -/
inductive Phase where
  | idle
  | encode
  | pad
  | init
  | load
  | step
  | feed
  | out
  deriving DecidableEq, Repr, Inhabited

/-- The four working registers (R21), and the four saved registers `AA, BB, CC, DD` (R23). -/
structure Regs where
  a : Word
  b : Word
  c : Word
  d : Word
  deriving DecidableEq, Repr, Inhabited

/-- Why a step is stuck. Each arises only in states that no operation reaches (`Sys2Proof.Safety`); each is safe: the model stops. -/
inductive Fault where
  /-- Raised by the fetch of a micro-step (Machine/Fetch.lean) when `{ALG, step}` selects no row (30_encoding.md R81;
  93_implementation_defined.md U5: "stuck if a treatment is needed"). Safe. Log 11. -/
  | noStepRow
  /-- Raised by the fetch of a block (Machine/Fetch.lean) when block `blk` is not within `PBS` (20_memory.md R59: "an index
  outside its range occurs in no rule"). Safe. Log 11. -/
  | noBlock
  deriving DecidableEq, Repr

/-- Why a request has no meaning. Each is safe: the model refuses. -/
inductive Refusal where
  /-- An instruction whose meaning is not written: raised by `exec` alone. Safe. No arm raises it. -/
  | notModelled (mnemonic : String)
  /-- Raised by the fetch of a request (Machine/Fetch.lean): `OP` 100 or 101 spells no command (30_encoding.md R80: "A model should
  *refuse* them"). Safe. -/
  | reservedCommand (op : BitVec 3)
  /-- Raised by the fetch of a request (Machine/Fetch.lean): the operand is not of the type the command takes (R71, R72).
  Safe. Log 7. -/
  | operandType (op : BitVec 3)
  /-- Raised by a command (`runCommand`, Machine/Ops.lean): the message is longer than a finite `P_MAX_MSG_BYTES` (60_exceptions.md
  R231: "the request is not accepted; the model refuses it"). Safe. Log 8. -/
  | messageTooLong
  deriving DecidableEq, Repr

/-- The state of one instance, with the requester's two lists. -/
structure State where
  /-- The constants of the instance (00_scope.md R6); written by nothing. Log 2, log 3. -/
  params : Params
  /-- `PHASE` (R27). -/
  phase : Phase
  /-- `OP`: `{ENC_ONLY, SRC, ALG}` (R29), latched at acceptance. -/
  op : BitVec 3
  /-- `S`, the string operand latched at acceptance (45_sequencer.md R212, R214). Log 14. -/
  str : List CodeUnit
  /-- `MSG`, the message (R25). -/
  msg : List Byte
  /-- `LEN`, the byte length of the message modulo 2^32 (R26). -/
  len : Word
  /-- `PBS`, the padded block stream (R25). -/
  pbs : List Byte
  /-- `a, b, c, d` (R21). -/
  regs : Regs
  /-- `AA, BB, CC, DD` (R23). -/
  saved : Regs
  /-- `W[0..15]` (R24). -/
  w : Vector Word 16
  /-- `blk`, the index of the block being compressed (R27). -/
  blk : Nat
  /-- `step`, the index of the next micro-step (R27). Log 9. -/
  stepIdx : Nat
  /-- `DIGEST[0..15]` (R30). -/
  digest : Vector Byte 16
  /-- `HEX[0..31]` (R30). -/
  hex : Vector Byte 32
  /-- `ENCOUT` (R30, 45_sequencer.md R214). Log 15. -/
  encout : List Byte
  /-- The model's own: the requests offered and not yet accepted, oldest first. Log 4. -/
  offered : List Request
  /-- The model's own: the responses delivered to the requester, oldest first. Log 5. -/
  delivered : List Response
  /-- The model's own: reset (70_reset_and_hazards.md R261) is applied at the next step. Log 6. -/
  resetApplied : Bool
  deriving DecidableEq, Repr

/-- The instance right after reset (R34): `PHASE = IDLE`, `BUSY = 0`, `MSG` and `PBS` empty (section 4 of 10_state.md), every other
item without a value (log 1). Nothing is offered and nothing has been delivered (log 4, log 5). -/
def State.reset : State where
  params := Params.default
  phase := .idle
  op := Config.noOp
  str := Config.noUnits
  msg := []
  len := Config.noWord 24
  pbs := []
  regs := ⟨Config.noWord 0, Config.noWord 1, Config.noWord 2, Config.noWord 3⟩
  saved := ⟨Config.noWord 4, Config.noWord 5, Config.noWord 6, Config.noWord 7⟩
  w := Vector.ofFn fun k => Config.noWord (8 + k.val)
  blk := Config.noNat 0
  stepIdx := Config.noNat 1
  digest := Vector.ofFn fun k => Config.noByte k.val
  hex := Vector.ofFn fun k => Config.noByte (16 + k.val)
  encout := Config.noBytes
  offered := []
  delivered := []
  resetApplied := false

end Sys2Proof.Machine
end

