-- ==== Sys2Proof/Machine/Operands.lean ====
section
/-! DEFINITION. The operand forms of a micro-step: working registers by name and by role (42_md5.md R145), block words read
little-endian from the block (20_memory.md R50), and the 32-bit functions a step applies to them (00_scope.md R16, R141, R171). -/

namespace Sys2Proof.Machine

/-- Reading `x[i]` (00_scope.md R17). -/
def Regs.get (r : Regs) (n : RegName) : Word :=
  match n with
  | .a => r.a
  | .b => r.b
  | .c => r.c
  | .d => r.d

/-- `x[i] <- v` (R17). -/
def Regs.set (r : Regs) (n : RegName) (v : Word) : Regs :=
  match n with
  | .a => { r with a := v }
  | .b => { r with b := v }
  | .c => { r with c := v }
  | .d => { r with d := v }

/-- The four sums of a feed-forward (42_md5.md R151, 43_md4.md R181), modulo 2^32 each. -/
def Regs.add (r q : Regs) : Regs :=
  ⟨r.a + q.a, r.b + q.b, r.c + q.c, r.d + q.d⟩

/-- The register after `n` in the order `a, b, c, d` and round again. -/
def nextReg (n : RegName) : RegName :=
  match n with
  | .a => .b
  | .b => .c
  | .c => .d
  | .d => .a

/-- Roles of a step that writes `dest` (R145): `ra` is `dest` itself, `rb` the register after it. -/
def roleB (dest : RegName) : RegName := nextReg dest

/-- Role `rc` of a step that writes `dest` (R145). -/
def roleC (dest : RegName) : RegName := nextReg (nextReg dest)

/-- Role `rd` of a step that writes `dest` (R145). -/
def roleD (dest : RegName) : RegName := nextReg (nextReg (nextReg dest))

/-- `rotl32(x, s)` (00_scope.md R16). -/
def rotl32 (x : Word) (s : Nat) : Word :=
  (x <<< s) ||| (x >>> (32 - s))

/-- `F`, select, of MD5 and of MD4 (42_md5.md R141, 43_md4.md R171). -/
def fnF (x y z : Word) : Word := (x &&& y) ||| (~~~x &&& z)

/-- MD5's `G` (R141). -/
def fnG5 (x y z : Word) : Word := (x &&& z) ||| (y &&& ~~~z)

/-- MD4's `G`, majority (R171). -/
def fnG4 (x y z : Word) : Word := (x &&& y) ||| (x &&& z) ||| (y &&& z)

/-- `H`, parity, of MD5 and of MD4 (R141, R171). -/
def fnH (x y z : Word) : Word := x ^^^ y ^^^ z

/-- MD5's `I` (R141). -/
def fnI (x y z : Word) : Word := y ^^^ (x ||| ~~~z)

/-- Byte `i` of a byte sequence; every rule reads within the sequence (20_memory.md R59). -/
def byteAt (b : List Byte) (i : Nat) : Byte := b.getD i 0

/-- `MemRead(addr, 4)` of the current block, little-endian (00_scope.md R17, 20_memory.md R50). -/
def memRead (b : List Byte) (addr : Nat) : Word :=
  (byteAt b addr).setWidth 32 ||| ((byteAt b (addr + 1)).setWidth 32 <<< 8) |||
    ((byteAt b (addr + 2)).setWidth 32 <<< 16) ||| ((byteAt b (addr + 3)).setWidth 32 <<< 24)

/-- `W[0..15]` of a block (41_padding.md R124). -/
def wordsOf (b : List Byte) : Vector Word 16 :=
  Vector.ofFn fun k => memRead b (4 * k.val)

end Sys2Proof.Machine
end

