-- ==== Sys2Proof/Machine/Output.lean ====
section
/-! DEFINITION. Digest serialisation and hex rendering (44_digest_output.md). -/

namespace Sys2Proof.Machine

/-- `MemWrite(addr, 4, v)` into the digest buffer: the four bytes of `v`, the least significant first (00_scope.md R17). -/
def memWrite (buf : Vector Byte 16) (addr : Fin 13) (v : Word) : Vector Byte 16 :=
  (((buf.set (addr.val + 0) (v.extractLsb' 0 8)).set (addr.val + 1) (v.extractLsb' 8 8)).set (addr.val + 2)
    (v.extractLsb' 16 8)).set (addr.val + 3) (v.extractLsb' 24 8)

/-- `serialise(a, b, c, d)` (R200), as the rule's four `MemWrite`s; all sixteen bytes are written. -/
def serialise (r : Regs) : Vector Byte 16 :=
  memWrite (memWrite (memWrite (memWrite (Vector.replicate 16 0) 0 r.a) 4 r.b) 8 r.c) 12 r.d

/-- `digit(v)` (R201): the ASCII code of a nibble's lowercase hex character. -/
def hexDigit (v : BitVec 4) : Byte :=
  if v < 10 then 0x30 + v.setWidth 8 else 0x61 + (v.setWidth 8 - 10)

/-- `hex(DIGEST)` (R201): for each digest byte in order, the high nibble's character and then the low nibble's. -/
def hexOf (digest : Vector Byte 16) : Vector Byte 32 :=
  Vector.ofFn fun k =>
    if k.val % 2 = 0 then hexDigit (digest[k.val / 2].extractLsb' 4 4)
    else hexDigit (digest[k.val / 2].extractLsb' 0 4)

end Sys2Proof.Machine
end

