-- ==== Sys2Proof/Machine/Padding.lean ====
section
/-! DEFINITION. Padding and block segmentation, the same for MD5 and MD4 (41_padding.md R127). -/

namespace Sys2Proof.Machine

/-- `LEN`: the byte length of the message modulo 2^32 (10_state.md R26). -/
def lenOf (m : List Byte) : Word :=
  BitVec.ofNat 32 m.length

/-- `len_lo`, the low word of the length field, from `LEN`: `length << 3` on 32 bits (R121; 92_eei_decisions.md D5). -/
def lenLo (len : Word) : Word :=
  len <<< 3

/-- `len_hi`, the high word of the length field, from `LEN`: `length >>> 29` (R121, D5). -/
def lenHi (len : Word) : Word :=
  len >>> 29

/-- `le32(v)`: the four bytes of a word, the least significant first (R120). -/
def le32 (v : Word) : List Byte :=
  [v.extractLsb' 0 8, v.extractLsb' 8 8, v.extractLsb' 16 8, v.extractLsb' 24 8]

/-- `z = (55 - L) mod 64`, non-negative (R120). -/
def zeroCount (l : Nat) : Nat :=
  (119 - l % 64) % 64

/-- The padding of a message whose `LEN` is `len` (R120). -/
def padWith (len : Word) (m : List Byte) : List Byte :=
  m ++ [0x80] ++ List.replicate (zeroCount m.length) 0x00 ++ le32 (lenLo len) ++ le32 (lenHi len)

/-- `pad(M)` (R120). -/
def pad (m : List Byte) : List Byte :=
  padWith (lenOf m) m

/-- `N`, the number of blocks of a padded stream (R123, 45_sequencer.md R215). -/
def numBlocks (pbs : List Byte) : Nat :=
  pbs.length / 64

/-- `slice(s, i, n)` (00_scope.md R15). -/
def slice (s : List Byte) (i n : Nat) : List Byte :=
  (s.drop i).take n

/-- Block `i` of the padded stream (R123). -/
def blockAt (pbs : List Byte) (i : Nat) : List Byte :=
  slice pbs (64 * i) 64

end Sys2Proof.Machine
end

