-- ==== Sys2Proof/Machine/Schedule.lean ====
section
/-! DEFINITION. The constants of the core (10_state.md R31): the initial values, MD5's table `T`, the word-index schedules and the
rotation amounts, each as the formula or table of its own rule. The micro-step rows (Machine/Md5Steps.lean, Machine/Md4Steps.lean)
carry the same numbers as the opcode table prints them. -/

namespace Sys2Proof.Machine

/-- The initial values of the working registers, for MD5 and MD4 alike (10_state.md R22, R140, R170). -/
def initRegs : Regs := ⟨0x67452301, 0xefcdab89, 0x98badcfe, 0x10325476⟩

/-- `T[0]` to `T[15]` (42_md5.md R142). -/
def tableT1 : List Word :=
  [0xd76aa478, 0xe8c7b756, 0x242070db, 0xc1bdceee,
   0xf57c0faf, 0x4787c62a, 0xa8304613, 0xfd469501,
   0x698098d8, 0x8b44f7af, 0xffff5bb1, 0x895cd7be,
   0x6b901122, 0xfd987193, 0xa679438e, 0x49b40821]

/-- `T[16]` to `T[31]` (42_md5.md R142). -/
def tableT2 : List Word :=
  [0xf61e2562, 0xc040b340, 0x265e5a51, 0xe9b6c7aa,
   0xd62f105d, 0x02441453, 0xd8a1e681, 0xe7d3fbc8,
   0x21e1cde6, 0xc33707d6, 0xf4d50d87, 0x455a14ed,
   0xa9e3e905, 0xfcefa3f8, 0x676f02d9, 0x8d2a4c8a]

/-- `T[32]` to `T[47]` (42_md5.md R142). -/
def tableT3 : List Word :=
  [0xfffa3942, 0x8771f681, 0x6d9d6122, 0xfde5380c,
   0xa4beea44, 0x4bdecfa9, 0xf6bb4b60, 0xbebfbc70,
   0x289b7ec6, 0xeaa127fa, 0xd4ef3085, 0x04881d05,
   0xd9d4d039, 0xe6db99e5, 0x1fa27cf8, 0xc4ac5665]

/-- `T[48]` to `T[63]` (42_md5.md R142). -/
def tableT4 : List Word :=
  [0xf4292244, 0x432aff97, 0xab9423a7, 0xfc93a039,
   0x655b59c3, 0x8f0ccc92, 0xffeff47d, 0x85845dd1,
   0x6fa87e4f, 0xfe2ce6e0, 0xa3014314, 0x4e0811a1,
   0xf7537e82, 0xbd3af235, 0x2ad7d2bb, 0xeb86d391]

/-- `T[0..63]` (R142): literal values. -/
def tableT : List Word := tableT1 ++ tableT2 ++ tableT3 ++ tableT4

/-- `T[j]`, for `j` in 0 .. 63 (R142). -/
def md5T (j : Nat) : Word := tableT.getD j 0

/-- The round function of MD5 step `j` (R146 to R149). -/
def md5Fn (j : Nat) : Word → Word → Word → Word :=
  match j / 16 with
  | 0 => fnF
  | 1 => fnG5
  | 2 => fnH
  | _ => fnI

/-- The word index of MD5 step `j` (R143). -/
def md5K (j : Nat) : Fin 16 :=
  match j / 16 with
  | 0 => Fin.ofNat 16 (j % 16)
  | 1 => Fin.ofNat 16 (5 * (j % 16) + 1)
  | 2 => Fin.ofNat 16 (3 * (j % 16) + 5)
  | _ => Fin.ofNat 16 (7 * (j % 16))

/-- A row of a table of rotation amounts, by `j mod 4` (R144, R175). -/
def shiftOf (s0 s1 s2 s3 j : Nat) : Nat :=
  match j % 4 with
  | 0 => s0
  | 1 => s1
  | 2 => s2
  | _ => s3

/-- The rotation amount of MD5 step `j` (R144). -/
def md5S (j : Nat) : Nat :=
  match j / 16 with
  | 0 => shiftOf 7 12 17 22 j
  | 1 => shiftOf 5 9 14 20 j
  | 2 => shiftOf 4 11 16 23 j
  | _ => shiftOf 6 10 15 21 j

/-- The register step `j` writes, of MD5 and MD4: `x[(0 - j) mod 4]` (R145, R176). -/
def destOf (j : Nat) : RegName :=
  match j % 4 with
  | 0 => .a
  | 1 => .d
  | 2 => .c
  | _ => .b

/-- The round function of MD4 step `j` (43_md4.md R177 to R179). -/
def md4Fn (j : Nat) : Word → Word → Word → Word :=
  match j / 16 with
  | 0 => fnF
  | 1 => fnG4
  | _ => fnH

/-- Bit reversal in 4 bits (R174): `k[3] = i[0]`, `k[2] = i[1]`, `k[1] = i[2]`, `k[0] = i[3]`. -/
def reverse4 (i : Nat) : Nat :=
  8 * (i % 2) + 4 * (i / 2 % 2) + 2 * (i / 4 % 2) + i / 8 % 2

/-- The word index of MD4 step `j` (R174). -/
def md4K (j : Nat) : Fin 16 :=
  match j / 16 with
  | 0 => Fin.ofNat 16 (j % 16)
  | 1 => Fin.ofNat 16 (4 * (j % 16 % 4) + j % 16 / 4)
  | _ => Fin.ofNat 16 (reverse4 (j % 16))

/-- The rotation amount of MD4 step `j` (R175). -/
def md4S (j : Nat) : Nat :=
  match j / 16 with
  | 0 => shiftOf 3 7 11 19 j
  | 1 => shiftOf 3 5 9 13 j
  | _ => shiftOf 3 9 11 15 j

/-- The additive constant of MD4 step `j` (R173): none in round 1, one a round in rounds 2 and 3. -/
def md4C (j : Nat) : Word :=
  match j / 16 with
  | 0 => 0x00000000
  | 1 => 0x5a827999
  | _ => 0x6ed9eba1

/-- `NSTEPS` (45_sequencer.md R213). -/
def nSteps (alg : Alg) : Nat :=
  match alg with
  | .md5 => 64
  | .md4 => 48

end Sys2Proof.Machine
end

