-- ==== Sys2Proof/Machine/Compress.lean ====
section
/-! DEFINITION. The compression cores as functions: one step (42_md5.md R145, 43_md4.md R176), a block (R151, R181), a message (R152,
R182). The commands mean these functions (45_sequencer.md R210: "the functional rules are right"). -/

namespace Sys2Proof.Machine

/-- The MD5 step (R145): `t <- ra + f(rb,rc,rd) + w + t`, `ra <- rb + rotl32(t, s)`; the other three registers keep their values. -/
def md5Update (f : Word → Word → Word → Word) (dest : RegName) (w c : Word) (s : Nat) (r : Regs) : Regs :=
  r.set dest (r.get (roleB dest) +
    rotl32 (r.get dest + f (r.get (roleB dest)) (r.get (roleC dest)) (r.get (roleD dest)) + w + c) s)

/-- The MD4 step (R176): `ra <- rotl32(ra + f(rb,rc,rd) + w + K, s)`; nothing is added after the rotation. -/
def md4Update (f : Word → Word → Word → Word) (dest : RegName) (w c : Word) (s : Nat) (r : Regs) : Regs :=
  r.set dest
    (rotl32 (r.get dest + f (r.get (roleB dest)) (r.get (roleC dest)) (r.get (roleD dest)) + w + c) s)

/-- Step `j` of an algorithm on the words of a block, by the schedules (R146 to R149, R177 to R179). -/
def stepRegs (alg : Alg) (j : Nat) (w : Vector Word 16) (r : Regs) : Regs :=
  match alg with
  | .md5 => md5Update (md5Fn j) (destOf j) (w.get (md5K j)) (md5T j) (md5S j) r
  | .md4 => md4Update (md4Fn j) (destOf j) (w.get (md4K j)) (md4C j) (md4S j) r

/-- The registers after steps `0 .. n-1` in order. -/
def stepsRegs (alg : Alg) (w : Vector Word 16) (r : Regs) : Nat → Regs
  | 0 => r
  | n + 1 => stepRegs alg n w (stepsRegs alg w r n)

/-- `md5_block` and `md4_block` (R151, R181): all steps of the block, then the feed-forward. -/
def blockRegs (alg : Alg) (r : Regs) (b : List Byte) : Regs :=
  (stepsRegs alg (wordsOf b) r (nSteps alg)).add r

/-- The chaining value after blocks `0 .. n-1` of a padded stream (R152, R182). -/
def chain (alg : Alg) (pbs : List Byte) : Nat → Regs
  | 0 => initRegs
  | n + 1 => blockRegs alg (chain alg pbs n) (blockAt pbs n)

/-- `md5(M)` and `md4(M)` (R152, R182). -/
def digestOf (alg : Alg) (m : List Byte) : Vector Byte 16 :=
  serialise (chain alg (pad m) (numBlocks (pad m)))

/-- `md5(M)` (R152). -/
def md5 (m : List Byte) : Vector Byte 16 := digestOf .md5 m

/-- `md4(M)` (R182). -/
def md4 (m : List Byte) : Vector Byte 16 := digestOf .md4 m

end Sys2Proof.Machine
end

