-- ==== Sys2Proof/Machine/Encoders.lean ====
section
/-! DEFINITION. The two text encoders (40_encoders.md). Code points and the fields cut from them are natural numbers, as in the
rules' own formulas; a byte is taken at the end. -/

namespace Sys2Proof.Machine

/-- The two bytes of a code unit, low byte first (20_memory.md R53). -/
def unitBytes (u : CodeUnit) : List Byte :=
  [u.extractLsb' 0 8, u.extractLsb' 8 8]

/-- `utf16le(s)` (R101): the two bytes of each unit in order; no unit is inspected (R102). -/
def utf16le (s : List CodeUnit) : List Byte :=
  s.flatMap unitBytes

/-- A continuation byte `10xxxxxx`: `0x80 | (v & 0x3F)` (R103). -/
def contByte (v : Nat) : Byte :=
  BitVec.ofNat 8 (0x80 ||| (v &&& 0x3F))

/-- `utf8_scalar(cp)` (R103): the range of `cp` alone selects the row. -/
def utf8Scalar (cp : Nat) : List Byte :=
  if cp ≤ 0x7F then [BitVec.ofNat 8 cp]
  else if cp ≤ 0x7FF then [BitVec.ofNat 8 (0xC0 ||| (cp >>> 6)), contByte cp]
  else if cp ≤ 0xFFFF then [BitVec.ofNat 8 (0xE0 ||| (cp >>> 12)), contByte (cp >>> 6), contByte cp]
  else [BitVec.ofNat 8 (0xF0 ||| (cp >>> 18)), contByte (cp >>> 12), contByte (cp >>> 6), contByte cp]

/-- A high surrogate, 0xD800 to 0xDBFF (R100). -/
def isHigh (u : CodeUnit) : Bool :=
  0xD800 ≤ u.toNat && u.toNat ≤ 0xDBFF

/-- A low surrogate, 0xDC00 to 0xDFFF (R100). -/
def isLow (u : CodeUnit) : Bool :=
  0xDC00 ≤ u.toNat && u.toNat ≤ 0xDFFF

/-- A surrogate, 0xD800 to 0xDFFF (R104). -/
def isSurrogate (u : CodeUnit) : Bool :=
  0xD800 ≤ u.toNat && u.toNat ≤ 0xDFFF

/-- The code point of a surrogate pair (R104): `0x10000 + ((hi - 0xD800) << 10) + (lo - 0xDC00)`. -/
def pairPoint (hi lo : CodeUnit) : Nat :=
  0x10000 + ((hi.toNat - 0xD800) <<< 10) + (lo.toNat - 0xDC00)

/-- `lone(u)` (R105): the bytes of an unpaired surrogate, by `P_UTF8_LONE_SURR`. -/
def loneBytes (p : LoneSurr) (u : CodeUnit) : List Byte :=
  match p with
  | .threeByte => [BitVec.ofNat 8 (0xE0 ||| (u.toNat >>> 12)), contByte (u.toNat >>> 6), contByte u.toNat]
  | .replacement => [0xEF, 0xBF, 0xBD]

/-- The bytes of a unit that starts no pair: R105 for a surrogate, R103 for any other unit. -/
def unpairedBytes (p : LoneSurr) (u : CodeUnit) : List Byte :=
  if isSurrogate u then loneBytes p u else utf8Scalar u.toNat

/-- `utf8(s)` (R104): from the left, a high surrogate immediately followed by a low one is one code point of four bytes; any other
unit stands alone. -/
def utf8 (p : LoneSurr) : List CodeUnit → List Byte
  | [] => []
  | [u] => unpairedBytes p u
  | u :: v :: rest =>
    if isHigh u && isLow v then utf8Scalar (pairPoint u v) ++ utf8 p rest
    else unpairedBytes p u ++ utf8 p (v :: rest)

/-- The message a string operand becomes on the path of `ALG` (30_encoding.md R71, 45_sequencer.md R214): UTF-8 on the MD5 path,
UTF-16LE on the MD4 path. -/
def encodeString (p : LoneSurr) (alg : Alg) (s : List CodeUnit) : List Byte :=
  match alg with
  | .md5 => utf8 p s
  | .md4 => utf16le s

end Sys2Proof.Machine
end

