-- ==== Sys2Proof/Machine/Flags.lean ====
section
/-! DEFINITION. The flags (10_state.md R28): the core has one, `BUSY`. There are no condition codes: "every addition discards the carry
out of bit 31 and nothing records that it did". -/

namespace Sys2Proof.Machine

/-- `BUSY`: "it equals `PHASE != IDLE`" (R28). -/
def State.busy (s : State) : Bool := s.phase != .idle

end Sys2Proof.Machine
end

