-- ==== Sys2Proof/Machine/Ops.lean ====
section
/-! DEFINITION. The named operations over the state that the meanings and the phases share: the fields of `OP`, acceptance and holding
of a request, delivery of a response, release at the end of an operation, reset, and the micro-step. The core takes no exception
and returns from none (60_exceptions.md R230, R235), so there is no such operation here. -/

namespace Sys2Proof.Machine

/-- `OP[0] = ALG` (10_state.md R29). -/
def opAlg (op : BitVec 3) : Alg := if op.getLsbD 0 then .md4 else .md5

/-- `OP[1] = SRC`: the operand is a string (R29). -/
def opSrc (op : BitVec 3) : Bool := op.getLsbD 1

/-- `OP[2] = ENC_ONLY` (R29). -/
def opEncOnly (op : BitVec 3) : Bool := op.getLsbD 2

/-- The message length is within `P_MAX_MSG_BYTES` (00_scope.md R6, 60_exceptions.md R231). -/
def admits (p : Params) (l : Nat) : Bool :=
  match p.maxMsgBytes with
  | none => true
  | some n => decide (l ≤ n)

/-- The message of a request (30_encoding.md R71): the operand itself, or what the encoder of the path makes of it. -/
def requestMessage (p : Params) (r : Request) : List Byte :=
  match r.operand with
  | .bytes m => m
  | .string u => encodeString p.loneSurr (opAlg r.op) u

/-- Every item of state without a value, as after reset (10_state.md R35: "The state after reset and the state between two
operations are the same state"); the parameters and the requester's side stay. -/
def State.released (s : State) : State :=
  { State.reset with
    params := s.params, offered := s.offered, delivered := s.delivered, resetApplied := s.resetApplied }

/-- The delivery of a response to the requester (45_sequencer.md R219; log 5). -/
def State.deliver (x : Response) (s : State) : State :=
  { s with delivered := s.delivered ++ [x] }

/-- The end of an operation (R219): the response is delivered, then `PHASE <- IDLE ; BUSY <- 0` and every other item holds no value. -/
def State.respond (x : Response) (s : State) : State :=
  (s.deliver x).released

/-- Reset of the instance (70_reset_and_hazards.md R260, R261): a running operation is abandoned without a response; what the requester
has offered and received is outside the instance (log 6). -/
def State.applyReset (s : State) : State :=
  { s.released with resetApplied := false }

/-- The requester offers a request (R212); it waits behind those offered before it (log 4). -/
def State.offer (r : Request) (s : State) : State :=
  { s with offered := s.offered ++ [r] }

/-- A request that cannot be accepted now is held, "not refused and not lost" (R212): it is again the next one offered (log 12). -/
def State.hold (r : Request) (s : State) : State :=
  { s with offered := r :: s.offered }

/-- Acceptance (R212): latches `OP` and the operand, and sets `PHASE <- ENCODE` for a string operand, `MSG <- operand ; PHASE <- PAD`
for a byte operand; with `PHASE`, `BUSY` is 1. -/
def State.accept (r : Request) (s : State) : State :=
  match r.operand with
  | .bytes m => { s with op := r.op, msg := m, phase := .pad }
  | .string u => { s with op := r.op, str := u, phase := .encode }

/-- A command (R210, R212) whose message is `m` and whose response is `x`: held while the instance is busy; refused outside the
instance's domain (R231); otherwise accepted, and where the instance merges the transitions of an operation (R222, log 3) carried
through to its response. -/
def runCommand (r : Request) (m : List Byte) (x : Response) (s : State) : Host.Outcome State Fault Refusal :=
  if s.busy then .next (s.hold r)
  else if admits s.params m.length then
    match s.params.granularity with
    | .operation => .next (s.respond x)
    | .phase => .next (s.accept r)
  else .refused .messageTooLong

/-- The response of a digest command: `DIGEST` and `HEX` (30_encoding.md R73). -/
def digestResponse (digest : Vector Byte 16) : Response :=
  .digest digest (hexOf digest)

/-- One MD5 micro-step on the state (42_md5.md R145): the register in role `ra` is written, then `step <- step + 1`. -/
def md5MicroStep (f : Word → Word → Word → Word) (dest : RegName) (k : Fin 16) (c : Word) (n : Nat) (s : State) :
    Host.Outcome State Fault Refusal :=
  .next { s with regs := md5Update f dest (s.w.get k) c n s.regs, stepIdx := s.stepIdx + 1 }

/-- One MD4 micro-step on the state (43_md4.md R176). -/
def md4MicroStep (f : Word → Word → Word → Word) (dest : RegName) (k : Fin 16) (c : Word) (n : Nat) (s : State) :
    Host.Outcome State Fault Refusal :=
  .next { s with regs := md4Update f dest (s.w.get k) c n s.regs, stepIdx := s.stepIdx + 1 }

end Sys2Proof.Machine
end

