-- ==== Sys2Proof/Machine/Md4.lean ====
section
/-! DEFINITION. The meanings of the MD4 commands (43_md4.md section 6). -/

namespace Sys2Proof.Machine

/-- `MD4B m` (R190): `DIGEST <- md4(m) ; HEX <- hex(DIGEST) ; respond (DIGEST, HEX)`. -/
def execMd4b (m : List Byte) (s : State) : Host.Outcome State Fault Refusal :=
  runCommand ⟨0b001#3, .bytes m⟩ m (digestResponse (md4 m)) s

/-- `NTLM s` (R191): `MSG <- utf16le(s) ; DIGEST <- md4(MSG) ; HEX <- hex(DIGEST) ; respond (DIGEST, HEX)`. -/
def execNtlm (u : List CodeUnit) (s : State) : Host.Outcome State Fault Refusal :=
  runCommand ⟨0b011#3, .string u⟩ (utf16le u) (digestResponse (md4 (utf16le u))) s

end Sys2Proof.Machine
end

