-- ==== Sys2Proof/Machine/Md4Steps.lean ====
section
/-! DEFINITION. The meanings of the MD4 micro-steps, `MD4.STEP0` to `MD4.STEP47`: one definition a row, written from the row of the
opcode table (R183: the table is normative) over the shared `md4MicroStep`; nothing is added after the rotation (43_md4.md R176). -/

namespace Sys2Proof.Machine

/-- `MD4.STEP0` (R177): `a <- rotl32(a + F(b,c,d) + W[0] + 0x00000000, 3)`. -/
def execMd4Step0 (s : State) : Host.Outcome State Fault Refusal :=
  md4MicroStep fnF .a 0 0x00000000 3 s

/-- `MD4.STEP1` (R177): `d <- rotl32(d + F(a,b,c) + W[1] + 0x00000000, 7)`. -/
def execMd4Step1 (s : State) : Host.Outcome State Fault Refusal :=
  md4MicroStep fnF .d 1 0x00000000 7 s

/-- `MD4.STEP2` (R177): `c <- rotl32(c + F(d,a,b) + W[2] + 0x00000000, 11)`. -/
def execMd4Step2 (s : State) : Host.Outcome State Fault Refusal :=
  md4MicroStep fnF .c 2 0x00000000 11 s

/-- `MD4.STEP3` (R177): `b <- rotl32(b + F(c,d,a) + W[3] + 0x00000000, 19)`. -/
def execMd4Step3 (s : State) : Host.Outcome State Fault Refusal :=
  md4MicroStep fnF .b 3 0x00000000 19 s

/-- `MD4.STEP4` (R177): `a <- rotl32(a + F(b,c,d) + W[4] + 0x00000000, 3)`. -/
def execMd4Step4 (s : State) : Host.Outcome State Fault Refusal :=
  md4MicroStep fnF .a 4 0x00000000 3 s

/-- `MD4.STEP5` (R177): `d <- rotl32(d + F(a,b,c) + W[5] + 0x00000000, 7)`. -/
def execMd4Step5 (s : State) : Host.Outcome State Fault Refusal :=
  md4MicroStep fnF .d 5 0x00000000 7 s

/-- `MD4.STEP6` (R177): `c <- rotl32(c + F(d,a,b) + W[6] + 0x00000000, 11)`. -/
def execMd4Step6 (s : State) : Host.Outcome State Fault Refusal :=
  md4MicroStep fnF .c 6 0x00000000 11 s

/-- `MD4.STEP7` (R177): `b <- rotl32(b + F(c,d,a) + W[7] + 0x00000000, 19)`. -/
def execMd4Step7 (s : State) : Host.Outcome State Fault Refusal :=
  md4MicroStep fnF .b 7 0x00000000 19 s

/-- `MD4.STEP8` (R177): `a <- rotl32(a + F(b,c,d) + W[8] + 0x00000000, 3)`. -/
def execMd4Step8 (s : State) : Host.Outcome State Fault Refusal :=
  md4MicroStep fnF .a 8 0x00000000 3 s

/-- `MD4.STEP9` (R177): `d <- rotl32(d + F(a,b,c) + W[9] + 0x00000000, 7)`. -/
def execMd4Step9 (s : State) : Host.Outcome State Fault Refusal :=
  md4MicroStep fnF .d 9 0x00000000 7 s

/-- `MD4.STEP10` (R177): `c <- rotl32(c + F(d,a,b) + W[10] + 0x00000000, 11)`. -/
def execMd4Step10 (s : State) : Host.Outcome State Fault Refusal :=
  md4MicroStep fnF .c 10 0x00000000 11 s

/-- `MD4.STEP11` (R177): `b <- rotl32(b + F(c,d,a) + W[11] + 0x00000000, 19)`. -/
def execMd4Step11 (s : State) : Host.Outcome State Fault Refusal :=
  md4MicroStep fnF .b 11 0x00000000 19 s

/-- `MD4.STEP12` (R177): `a <- rotl32(a + F(b,c,d) + W[12] + 0x00000000, 3)`. -/
def execMd4Step12 (s : State) : Host.Outcome State Fault Refusal :=
  md4MicroStep fnF .a 12 0x00000000 3 s

/-- `MD4.STEP13` (R177): `d <- rotl32(d + F(a,b,c) + W[13] + 0x00000000, 7)`. -/
def execMd4Step13 (s : State) : Host.Outcome State Fault Refusal :=
  md4MicroStep fnF .d 13 0x00000000 7 s

/-- `MD4.STEP14` (R177): `c <- rotl32(c + F(d,a,b) + W[14] + 0x00000000, 11)`. -/
def execMd4Step14 (s : State) : Host.Outcome State Fault Refusal :=
  md4MicroStep fnF .c 14 0x00000000 11 s

/-- `MD4.STEP15` (R177): `b <- rotl32(b + F(c,d,a) + W[15] + 0x00000000, 19)`. -/
def execMd4Step15 (s : State) : Host.Outcome State Fault Refusal :=
  md4MicroStep fnF .b 15 0x00000000 19 s

/-- `MD4.STEP16` (R178): `a <- rotl32(a + G(b,c,d) + W[0] + 0x5a827999, 3)`. -/
def execMd4Step16 (s : State) : Host.Outcome State Fault Refusal :=
  md4MicroStep fnG4 .a 0 0x5a827999 3 s

/-- `MD4.STEP17` (R178): `d <- rotl32(d + G(a,b,c) + W[4] + 0x5a827999, 5)`. -/
def execMd4Step17 (s : State) : Host.Outcome State Fault Refusal :=
  md4MicroStep fnG4 .d 4 0x5a827999 5 s

/-- `MD4.STEP18` (R178): `c <- rotl32(c + G(d,a,b) + W[8] + 0x5a827999, 9)`. -/
def execMd4Step18 (s : State) : Host.Outcome State Fault Refusal :=
  md4MicroStep fnG4 .c 8 0x5a827999 9 s

/-- `MD4.STEP19` (R178): `b <- rotl32(b + G(c,d,a) + W[12] + 0x5a827999, 13)`. -/
def execMd4Step19 (s : State) : Host.Outcome State Fault Refusal :=
  md4MicroStep fnG4 .b 12 0x5a827999 13 s

/-- `MD4.STEP20` (R178): `a <- rotl32(a + G(b,c,d) + W[1] + 0x5a827999, 3)`. -/
def execMd4Step20 (s : State) : Host.Outcome State Fault Refusal :=
  md4MicroStep fnG4 .a 1 0x5a827999 3 s

/-- `MD4.STEP21` (R178): `d <- rotl32(d + G(a,b,c) + W[5] + 0x5a827999, 5)`. -/
def execMd4Step21 (s : State) : Host.Outcome State Fault Refusal :=
  md4MicroStep fnG4 .d 5 0x5a827999 5 s

/-- `MD4.STEP22` (R178): `c <- rotl32(c + G(d,a,b) + W[9] + 0x5a827999, 9)`. -/
def execMd4Step22 (s : State) : Host.Outcome State Fault Refusal :=
  md4MicroStep fnG4 .c 9 0x5a827999 9 s

/-- `MD4.STEP23` (R178): `b <- rotl32(b + G(c,d,a) + W[13] + 0x5a827999, 13)`. -/
def execMd4Step23 (s : State) : Host.Outcome State Fault Refusal :=
  md4MicroStep fnG4 .b 13 0x5a827999 13 s

/-- `MD4.STEP24` (R178): `a <- rotl32(a + G(b,c,d) + W[2] + 0x5a827999, 3)`. -/
def execMd4Step24 (s : State) : Host.Outcome State Fault Refusal :=
  md4MicroStep fnG4 .a 2 0x5a827999 3 s

/-- `MD4.STEP25` (R178): `d <- rotl32(d + G(a,b,c) + W[6] + 0x5a827999, 5)`. -/
def execMd4Step25 (s : State) : Host.Outcome State Fault Refusal :=
  md4MicroStep fnG4 .d 6 0x5a827999 5 s

/-- `MD4.STEP26` (R178): `c <- rotl32(c + G(d,a,b) + W[10] + 0x5a827999, 9)`. -/
def execMd4Step26 (s : State) : Host.Outcome State Fault Refusal :=
  md4MicroStep fnG4 .c 10 0x5a827999 9 s

/-- `MD4.STEP27` (R178): `b <- rotl32(b + G(c,d,a) + W[14] + 0x5a827999, 13)`. -/
def execMd4Step27 (s : State) : Host.Outcome State Fault Refusal :=
  md4MicroStep fnG4 .b 14 0x5a827999 13 s

/-- `MD4.STEP28` (R178): `a <- rotl32(a + G(b,c,d) + W[3] + 0x5a827999, 3)`. -/
def execMd4Step28 (s : State) : Host.Outcome State Fault Refusal :=
  md4MicroStep fnG4 .a 3 0x5a827999 3 s

/-- `MD4.STEP29` (R178): `d <- rotl32(d + G(a,b,c) + W[7] + 0x5a827999, 5)`. -/
def execMd4Step29 (s : State) : Host.Outcome State Fault Refusal :=
  md4MicroStep fnG4 .d 7 0x5a827999 5 s

/-- `MD4.STEP30` (R178): `c <- rotl32(c + G(d,a,b) + W[11] + 0x5a827999, 9)`. -/
def execMd4Step30 (s : State) : Host.Outcome State Fault Refusal :=
  md4MicroStep fnG4 .c 11 0x5a827999 9 s

/-- `MD4.STEP31` (R178): `b <- rotl32(b + G(c,d,a) + W[15] + 0x5a827999, 13)`. -/
def execMd4Step31 (s : State) : Host.Outcome State Fault Refusal :=
  md4MicroStep fnG4 .b 15 0x5a827999 13 s

/-- `MD4.STEP32` (R179): `a <- rotl32(a + H(b,c,d) + W[0] + 0x6ed9eba1, 3)`. -/
def execMd4Step32 (s : State) : Host.Outcome State Fault Refusal :=
  md4MicroStep fnH .a 0 0x6ed9eba1 3 s

/-- `MD4.STEP33` (R179): `d <- rotl32(d + H(a,b,c) + W[8] + 0x6ed9eba1, 9)`. -/
def execMd4Step33 (s : State) : Host.Outcome State Fault Refusal :=
  md4MicroStep fnH .d 8 0x6ed9eba1 9 s

/-- `MD4.STEP34` (R179): `c <- rotl32(c + H(d,a,b) + W[4] + 0x6ed9eba1, 11)`. -/
def execMd4Step34 (s : State) : Host.Outcome State Fault Refusal :=
  md4MicroStep fnH .c 4 0x6ed9eba1 11 s

/-- `MD4.STEP35` (R179): `b <- rotl32(b + H(c,d,a) + W[12] + 0x6ed9eba1, 15)`. -/
def execMd4Step35 (s : State) : Host.Outcome State Fault Refusal :=
  md4MicroStep fnH .b 12 0x6ed9eba1 15 s

/-- `MD4.STEP36` (R179): `a <- rotl32(a + H(b,c,d) + W[2] + 0x6ed9eba1, 3)`. -/
def execMd4Step36 (s : State) : Host.Outcome State Fault Refusal :=
  md4MicroStep fnH .a 2 0x6ed9eba1 3 s

/-- `MD4.STEP37` (R179): `d <- rotl32(d + H(a,b,c) + W[10] + 0x6ed9eba1, 9)`. -/
def execMd4Step37 (s : State) : Host.Outcome State Fault Refusal :=
  md4MicroStep fnH .d 10 0x6ed9eba1 9 s

/-- `MD4.STEP38` (R179): `c <- rotl32(c + H(d,a,b) + W[6] + 0x6ed9eba1, 11)`. -/
def execMd4Step38 (s : State) : Host.Outcome State Fault Refusal :=
  md4MicroStep fnH .c 6 0x6ed9eba1 11 s

/-- `MD4.STEP39` (R179): `b <- rotl32(b + H(c,d,a) + W[14] + 0x6ed9eba1, 15)`. -/
def execMd4Step39 (s : State) : Host.Outcome State Fault Refusal :=
  md4MicroStep fnH .b 14 0x6ed9eba1 15 s

/-- `MD4.STEP40` (R179): `a <- rotl32(a + H(b,c,d) + W[1] + 0x6ed9eba1, 3)`. -/
def execMd4Step40 (s : State) : Host.Outcome State Fault Refusal :=
  md4MicroStep fnH .a 1 0x6ed9eba1 3 s

/-- `MD4.STEP41` (R179): `d <- rotl32(d + H(a,b,c) + W[9] + 0x6ed9eba1, 9)`. -/
def execMd4Step41 (s : State) : Host.Outcome State Fault Refusal :=
  md4MicroStep fnH .d 9 0x6ed9eba1 9 s

/-- `MD4.STEP42` (R179): `c <- rotl32(c + H(d,a,b) + W[5] + 0x6ed9eba1, 11)`. -/
def execMd4Step42 (s : State) : Host.Outcome State Fault Refusal :=
  md4MicroStep fnH .c 5 0x6ed9eba1 11 s

/-- `MD4.STEP43` (R179): `b <- rotl32(b + H(c,d,a) + W[13] + 0x6ed9eba1, 15)`. -/
def execMd4Step43 (s : State) : Host.Outcome State Fault Refusal :=
  md4MicroStep fnH .b 13 0x6ed9eba1 15 s

/-- `MD4.STEP44` (R179): `a <- rotl32(a + H(b,c,d) + W[3] + 0x6ed9eba1, 3)`. -/
def execMd4Step44 (s : State) : Host.Outcome State Fault Refusal :=
  md4MicroStep fnH .a 3 0x6ed9eba1 3 s

/-- `MD4.STEP45` (R179): `d <- rotl32(d + H(a,b,c) + W[11] + 0x6ed9eba1, 9)`. -/
def execMd4Step45 (s : State) : Host.Outcome State Fault Refusal :=
  md4MicroStep fnH .d 11 0x6ed9eba1 9 s

/-- `MD4.STEP46` (R179): `c <- rotl32(c + H(d,a,b) + W[7] + 0x6ed9eba1, 11)`. -/
def execMd4Step46 (s : State) : Host.Outcome State Fault Refusal :=
  md4MicroStep fnH .c 7 0x6ed9eba1 11 s

/-- `MD4.STEP47` (R179): `b <- rotl32(b + H(c,d,a) + W[15] + 0x6ed9eba1, 15)`. -/
def execMd4Step47 (s : State) : Host.Outcome State Fault Refusal :=
  md4MicroStep fnH .b 15 0x6ed9eba1 15 s

end Sys2Proof.Machine
end

