-- ==== Sys2Proof/Machine/Md5.lean ====
section
/-! DEFINITION. The meanings of the MD5 commands (42_md5.md section 7). -/

namespace Sys2Proof.Machine

/-- `MD5B m` (R160): `DIGEST <- md5(m) ; HEX <- hex(DIGEST) ; respond (DIGEST, HEX)`. -/
def execMd5b (m : List Byte) (s : State) : Host.Outcome State Fault Refusal :=
  runCommand ⟨0b000#3, .bytes m⟩ m (digestResponse (md5 m)) s

/-- `MD5S s` (R161): `MSG <- utf8(s) ; DIGEST <- md5(MSG) ; HEX <- hex(DIGEST) ; respond (DIGEST, HEX)`. -/
def execMd5s (u : List CodeUnit) (s : State) : Host.Outcome State Fault Refusal :=
  runCommand ⟨0b010#3, .string u⟩ (utf8 s.params.loneSurr u) (digestResponse (md5 (utf8 s.params.loneSurr u))) s

end Sys2Proof.Machine
end

