-- ==== Sys2Proof/Machine/Md5Steps.lean ====
section
/-! DEFINITION. The meanings of the MD5 micro-steps, `MD5.STEP0` to `MD5.STEP63`: one definition a row, written from the row of the
opcode table (R153: the table is normative) over the shared `md5MicroStep`; each step adds the register in role b after the rotation (42_md5.md R145). -/

namespace Sys2Proof.Machine

/-- `MD5.STEP0` (R146): `a <- b + rotl32(a + F(b,c,d) + W[0] + 0xd76aa478, 7)`. -/
def execMd5Step0 (s : State) : Host.Outcome State Fault Refusal :=
  md5MicroStep fnF .a 0 0xd76aa478 7 s

/-- `MD5.STEP1` (R146): `d <- a + rotl32(d + F(a,b,c) + W[1] + 0xe8c7b756, 12)`. -/
def execMd5Step1 (s : State) : Host.Outcome State Fault Refusal :=
  md5MicroStep fnF .d 1 0xe8c7b756 12 s

/-- `MD5.STEP2` (R146): `c <- d + rotl32(c + F(d,a,b) + W[2] + 0x242070db, 17)`. -/
def execMd5Step2 (s : State) : Host.Outcome State Fault Refusal :=
  md5MicroStep fnF .c 2 0x242070db 17 s

/-- `MD5.STEP3` (R146): `b <- c + rotl32(b + F(c,d,a) + W[3] + 0xc1bdceee, 22)`. -/
def execMd5Step3 (s : State) : Host.Outcome State Fault Refusal :=
  md5MicroStep fnF .b 3 0xc1bdceee 22 s

/-- `MD5.STEP4` (R146): `a <- b + rotl32(a + F(b,c,d) + W[4] + 0xf57c0faf, 7)`. -/
def execMd5Step4 (s : State) : Host.Outcome State Fault Refusal :=
  md5MicroStep fnF .a 4 0xf57c0faf 7 s

/-- `MD5.STEP5` (R146): `d <- a + rotl32(d + F(a,b,c) + W[5] + 0x4787c62a, 12)`. -/
def execMd5Step5 (s : State) : Host.Outcome State Fault Refusal :=
  md5MicroStep fnF .d 5 0x4787c62a 12 s

/-- `MD5.STEP6` (R146): `c <- d + rotl32(c + F(d,a,b) + W[6] + 0xa8304613, 17)`. -/
def execMd5Step6 (s : State) : Host.Outcome State Fault Refusal :=
  md5MicroStep fnF .c 6 0xa8304613 17 s

/-- `MD5.STEP7` (R146): `b <- c + rotl32(b + F(c,d,a) + W[7] + 0xfd469501, 22)`. -/
def execMd5Step7 (s : State) : Host.Outcome State Fault Refusal :=
  md5MicroStep fnF .b 7 0xfd469501 22 s

/-- `MD5.STEP8` (R146): `a <- b + rotl32(a + F(b,c,d) + W[8] + 0x698098d8, 7)`. -/
def execMd5Step8 (s : State) : Host.Outcome State Fault Refusal :=
  md5MicroStep fnF .a 8 0x698098d8 7 s

/-- `MD5.STEP9` (R146): `d <- a + rotl32(d + F(a,b,c) + W[9] + 0x8b44f7af, 12)`. -/
def execMd5Step9 (s : State) : Host.Outcome State Fault Refusal :=
  md5MicroStep fnF .d 9 0x8b44f7af 12 s

/-- `MD5.STEP10` (R146): `c <- d + rotl32(c + F(d,a,b) + W[10] + 0xffff5bb1, 17)`. -/
def execMd5Step10 (s : State) : Host.Outcome State Fault Refusal :=
  md5MicroStep fnF .c 10 0xffff5bb1 17 s

/-- `MD5.STEP11` (R146): `b <- c + rotl32(b + F(c,d,a) + W[11] + 0x895cd7be, 22)`. -/
def execMd5Step11 (s : State) : Host.Outcome State Fault Refusal :=
  md5MicroStep fnF .b 11 0x895cd7be 22 s

/-- `MD5.STEP12` (R146): `a <- b + rotl32(a + F(b,c,d) + W[12] + 0x6b901122, 7)`. -/
def execMd5Step12 (s : State) : Host.Outcome State Fault Refusal :=
  md5MicroStep fnF .a 12 0x6b901122 7 s

/-- `MD5.STEP13` (R146): `d <- a + rotl32(d + F(a,b,c) + W[13] + 0xfd987193, 12)`. -/
def execMd5Step13 (s : State) : Host.Outcome State Fault Refusal :=
  md5MicroStep fnF .d 13 0xfd987193 12 s

/-- `MD5.STEP14` (R146): `c <- d + rotl32(c + F(d,a,b) + W[14] + 0xa679438e, 17)`. -/
def execMd5Step14 (s : State) : Host.Outcome State Fault Refusal :=
  md5MicroStep fnF .c 14 0xa679438e 17 s

/-- `MD5.STEP15` (R146): `b <- c + rotl32(b + F(c,d,a) + W[15] + 0x49b40821, 22)`. -/
def execMd5Step15 (s : State) : Host.Outcome State Fault Refusal :=
  md5MicroStep fnF .b 15 0x49b40821 22 s

/-- `MD5.STEP16` (R147): `a <- b + rotl32(a + G(b,c,d) + W[1] + 0xf61e2562, 5)`. -/
def execMd5Step16 (s : State) : Host.Outcome State Fault Refusal :=
  md5MicroStep fnG5 .a 1 0xf61e2562 5 s

/-- `MD5.STEP17` (R147): `d <- a + rotl32(d + G(a,b,c) + W[6] + 0xc040b340, 9)`. -/
def execMd5Step17 (s : State) : Host.Outcome State Fault Refusal :=
  md5MicroStep fnG5 .d 6 0xc040b340 9 s

/-- `MD5.STEP18` (R147): `c <- d + rotl32(c + G(d,a,b) + W[11] + 0x265e5a51, 14)`. -/
def execMd5Step18 (s : State) : Host.Outcome State Fault Refusal :=
  md5MicroStep fnG5 .c 11 0x265e5a51 14 s

/-- `MD5.STEP19` (R147): `b <- c + rotl32(b + G(c,d,a) + W[0] + 0xe9b6c7aa, 20)`. -/
def execMd5Step19 (s : State) : Host.Outcome State Fault Refusal :=
  md5MicroStep fnG5 .b 0 0xe9b6c7aa 20 s

/-- `MD5.STEP20` (R147): `a <- b + rotl32(a + G(b,c,d) + W[5] + 0xd62f105d, 5)`. -/
def execMd5Step20 (s : State) : Host.Outcome State Fault Refusal :=
  md5MicroStep fnG5 .a 5 0xd62f105d 5 s

/-- `MD5.STEP21` (R147): `d <- a + rotl32(d + G(a,b,c) + W[10] + 0x02441453, 9)`. -/
def execMd5Step21 (s : State) : Host.Outcome State Fault Refusal :=
  md5MicroStep fnG5 .d 10 0x02441453 9 s

/-- `MD5.STEP22` (R147): `c <- d + rotl32(c + G(d,a,b) + W[15] + 0xd8a1e681, 14)`. -/
def execMd5Step22 (s : State) : Host.Outcome State Fault Refusal :=
  md5MicroStep fnG5 .c 15 0xd8a1e681 14 s

/-- `MD5.STEP23` (R147): `b <- c + rotl32(b + G(c,d,a) + W[4] + 0xe7d3fbc8, 20)`. -/
def execMd5Step23 (s : State) : Host.Outcome State Fault Refusal :=
  md5MicroStep fnG5 .b 4 0xe7d3fbc8 20 s

/-- `MD5.STEP24` (R147): `a <- b + rotl32(a + G(b,c,d) + W[9] + 0x21e1cde6, 5)`. -/
def execMd5Step24 (s : State) : Host.Outcome State Fault Refusal :=
  md5MicroStep fnG5 .a 9 0x21e1cde6 5 s

/-- `MD5.STEP25` (R147): `d <- a + rotl32(d + G(a,b,c) + W[14] + 0xc33707d6, 9)`. -/
def execMd5Step25 (s : State) : Host.Outcome State Fault Refusal :=
  md5MicroStep fnG5 .d 14 0xc33707d6 9 s

/-- `MD5.STEP26` (R147): `c <- d + rotl32(c + G(d,a,b) + W[3] + 0xf4d50d87, 14)`. -/
def execMd5Step26 (s : State) : Host.Outcome State Fault Refusal :=
  md5MicroStep fnG5 .c 3 0xf4d50d87 14 s

/-- `MD5.STEP27` (R147): `b <- c + rotl32(b + G(c,d,a) + W[8] + 0x455a14ed, 20)`. -/
def execMd5Step27 (s : State) : Host.Outcome State Fault Refusal :=
  md5MicroStep fnG5 .b 8 0x455a14ed 20 s

/-- `MD5.STEP28` (R147): `a <- b + rotl32(a + G(b,c,d) + W[13] + 0xa9e3e905, 5)`. -/
def execMd5Step28 (s : State) : Host.Outcome State Fault Refusal :=
  md5MicroStep fnG5 .a 13 0xa9e3e905 5 s

/-- `MD5.STEP29` (R147): `d <- a + rotl32(d + G(a,b,c) + W[2] + 0xfcefa3f8, 9)`. -/
def execMd5Step29 (s : State) : Host.Outcome State Fault Refusal :=
  md5MicroStep fnG5 .d 2 0xfcefa3f8 9 s

/-- `MD5.STEP30` (R147): `c <- d + rotl32(c + G(d,a,b) + W[7] + 0x676f02d9, 14)`. -/
def execMd5Step30 (s : State) : Host.Outcome State Fault Refusal :=
  md5MicroStep fnG5 .c 7 0x676f02d9 14 s

/-- `MD5.STEP31` (R147): `b <- c + rotl32(b + G(c,d,a) + W[12] + 0x8d2a4c8a, 20)`. -/
def execMd5Step31 (s : State) : Host.Outcome State Fault Refusal :=
  md5MicroStep fnG5 .b 12 0x8d2a4c8a 20 s

/-- `MD5.STEP32` (R148): `a <- b + rotl32(a + H(b,c,d) + W[5] + 0xfffa3942, 4)`. -/
def execMd5Step32 (s : State) : Host.Outcome State Fault Refusal :=
  md5MicroStep fnH .a 5 0xfffa3942 4 s

/-- `MD5.STEP33` (R148): `d <- a + rotl32(d + H(a,b,c) + W[8] + 0x8771f681, 11)`. -/
def execMd5Step33 (s : State) : Host.Outcome State Fault Refusal :=
  md5MicroStep fnH .d 8 0x8771f681 11 s

/-- `MD5.STEP34` (R148): `c <- d + rotl32(c + H(d,a,b) + W[11] + 0x6d9d6122, 16)`. -/
def execMd5Step34 (s : State) : Host.Outcome State Fault Refusal :=
  md5MicroStep fnH .c 11 0x6d9d6122 16 s

/-- `MD5.STEP35` (R148): `b <- c + rotl32(b + H(c,d,a) + W[14] + 0xfde5380c, 23)`. -/
def execMd5Step35 (s : State) : Host.Outcome State Fault Refusal :=
  md5MicroStep fnH .b 14 0xfde5380c 23 s

/-- `MD5.STEP36` (R148): `a <- b + rotl32(a + H(b,c,d) + W[1] + 0xa4beea44, 4)`. -/
def execMd5Step36 (s : State) : Host.Outcome State Fault Refusal :=
  md5MicroStep fnH .a 1 0xa4beea44 4 s

/-- `MD5.STEP37` (R148): `d <- a + rotl32(d + H(a,b,c) + W[4] + 0x4bdecfa9, 11)`. -/
def execMd5Step37 (s : State) : Host.Outcome State Fault Refusal :=
  md5MicroStep fnH .d 4 0x4bdecfa9 11 s

/-- `MD5.STEP38` (R148): `c <- d + rotl32(c + H(d,a,b) + W[7] + 0xf6bb4b60, 16)`. -/
def execMd5Step38 (s : State) : Host.Outcome State Fault Refusal :=
  md5MicroStep fnH .c 7 0xf6bb4b60 16 s

/-- `MD5.STEP39` (R148): `b <- c + rotl32(b + H(c,d,a) + W[10] + 0xbebfbc70, 23)`. -/
def execMd5Step39 (s : State) : Host.Outcome State Fault Refusal :=
  md5MicroStep fnH .b 10 0xbebfbc70 23 s

/-- `MD5.STEP40` (R148): `a <- b + rotl32(a + H(b,c,d) + W[13] + 0x289b7ec6, 4)`. -/
def execMd5Step40 (s : State) : Host.Outcome State Fault Refusal :=
  md5MicroStep fnH .a 13 0x289b7ec6 4 s

/-- `MD5.STEP41` (R148): `d <- a + rotl32(d + H(a,b,c) + W[0] + 0xeaa127fa, 11)`. -/
def execMd5Step41 (s : State) : Host.Outcome State Fault Refusal :=
  md5MicroStep fnH .d 0 0xeaa127fa 11 s

/-- `MD5.STEP42` (R148): `c <- d + rotl32(c + H(d,a,b) + W[3] + 0xd4ef3085, 16)`. -/
def execMd5Step42 (s : State) : Host.Outcome State Fault Refusal :=
  md5MicroStep fnH .c 3 0xd4ef3085 16 s

/-- `MD5.STEP43` (R148): `b <- c + rotl32(b + H(c,d,a) + W[6] + 0x04881d05, 23)`. -/
def execMd5Step43 (s : State) : Host.Outcome State Fault Refusal :=
  md5MicroStep fnH .b 6 0x04881d05 23 s

/-- `MD5.STEP44` (R148): `a <- b + rotl32(a + H(b,c,d) + W[9] + 0xd9d4d039, 4)`. -/
def execMd5Step44 (s : State) : Host.Outcome State Fault Refusal :=
  md5MicroStep fnH .a 9 0xd9d4d039 4 s

/-- `MD5.STEP45` (R148): `d <- a + rotl32(d + H(a,b,c) + W[12] + 0xe6db99e5, 11)`. -/
def execMd5Step45 (s : State) : Host.Outcome State Fault Refusal :=
  md5MicroStep fnH .d 12 0xe6db99e5 11 s

/-- `MD5.STEP46` (R148): `c <- d + rotl32(c + H(d,a,b) + W[15] + 0x1fa27cf8, 16)`. -/
def execMd5Step46 (s : State) : Host.Outcome State Fault Refusal :=
  md5MicroStep fnH .c 15 0x1fa27cf8 16 s

/-- `MD5.STEP47` (R148): `b <- c + rotl32(b + H(c,d,a) + W[2] + 0xc4ac5665, 23)`. -/
def execMd5Step47 (s : State) : Host.Outcome State Fault Refusal :=
  md5MicroStep fnH .b 2 0xc4ac5665 23 s

/-- `MD5.STEP48` (R149): `a <- b + rotl32(a + I(b,c,d) + W[0] + 0xf4292244, 6)`. -/
def execMd5Step48 (s : State) : Host.Outcome State Fault Refusal :=
  md5MicroStep fnI .a 0 0xf4292244 6 s

/-- `MD5.STEP49` (R149): `d <- a + rotl32(d + I(a,b,c) + W[7] + 0x432aff97, 10)`. -/
def execMd5Step49 (s : State) : Host.Outcome State Fault Refusal :=
  md5MicroStep fnI .d 7 0x432aff97 10 s

/-- `MD5.STEP50` (R149): `c <- d + rotl32(c + I(d,a,b) + W[14] + 0xab9423a7, 15)`. -/
def execMd5Step50 (s : State) : Host.Outcome State Fault Refusal :=
  md5MicroStep fnI .c 14 0xab9423a7 15 s

/-- `MD5.STEP51` (R149): `b <- c + rotl32(b + I(c,d,a) + W[5] + 0xfc93a039, 21)`. -/
def execMd5Step51 (s : State) : Host.Outcome State Fault Refusal :=
  md5MicroStep fnI .b 5 0xfc93a039 21 s

/-- `MD5.STEP52` (R149): `a <- b + rotl32(a + I(b,c,d) + W[12] + 0x655b59c3, 6)`. -/
def execMd5Step52 (s : State) : Host.Outcome State Fault Refusal :=
  md5MicroStep fnI .a 12 0x655b59c3 6 s

/-- `MD5.STEP53` (R149): `d <- a + rotl32(d + I(a,b,c) + W[3] + 0x8f0ccc92, 10)`. -/
def execMd5Step53 (s : State) : Host.Outcome State Fault Refusal :=
  md5MicroStep fnI .d 3 0x8f0ccc92 10 s

/-- `MD5.STEP54` (R149): `c <- d + rotl32(c + I(d,a,b) + W[10] + 0xffeff47d, 15)`. -/
def execMd5Step54 (s : State) : Host.Outcome State Fault Refusal :=
  md5MicroStep fnI .c 10 0xffeff47d 15 s

/-- `MD5.STEP55` (R149): `b <- c + rotl32(b + I(c,d,a) + W[1] + 0x85845dd1, 21)`. -/
def execMd5Step55 (s : State) : Host.Outcome State Fault Refusal :=
  md5MicroStep fnI .b 1 0x85845dd1 21 s

/-- `MD5.STEP56` (R149): `a <- b + rotl32(a + I(b,c,d) + W[8] + 0x6fa87e4f, 6)`. -/
def execMd5Step56 (s : State) : Host.Outcome State Fault Refusal :=
  md5MicroStep fnI .a 8 0x6fa87e4f 6 s

/-- `MD5.STEP57` (R149): `d <- a + rotl32(d + I(a,b,c) + W[15] + 0xfe2ce6e0, 10)`. -/
def execMd5Step57 (s : State) : Host.Outcome State Fault Refusal :=
  md5MicroStep fnI .d 15 0xfe2ce6e0 10 s

/-- `MD5.STEP58` (R149): `c <- d + rotl32(c + I(d,a,b) + W[6] + 0xa3014314, 15)`. -/
def execMd5Step58 (s : State) : Host.Outcome State Fault Refusal :=
  md5MicroStep fnI .c 6 0xa3014314 15 s

/-- `MD5.STEP59` (R149): `b <- c + rotl32(b + I(c,d,a) + W[13] + 0x4e0811a1, 21)`. -/
def execMd5Step59 (s : State) : Host.Outcome State Fault Refusal :=
  md5MicroStep fnI .b 13 0x4e0811a1 21 s

/-- `MD5.STEP60` (R149): `a <- b + rotl32(a + I(b,c,d) + W[4] + 0xf7537e82, 6)`. -/
def execMd5Step60 (s : State) : Host.Outcome State Fault Refusal :=
  md5MicroStep fnI .a 4 0xf7537e82 6 s

/-- `MD5.STEP61` (R149): `d <- a + rotl32(d + I(a,b,c) + W[11] + 0xbd3af235, 10)`. -/
def execMd5Step61 (s : State) : Host.Outcome State Fault Refusal :=
  md5MicroStep fnI .d 11 0xbd3af235 10 s

/-- `MD5.STEP62` (R149): `c <- d + rotl32(c + I(d,a,b) + W[2] + 0x2ad7d2bb, 15)`. -/
def execMd5Step62 (s : State) : Host.Outcome State Fault Refusal :=
  md5MicroStep fnI .c 2 0x2ad7d2bb 15 s

/-- `MD5.STEP63` (R149): `b <- c + rotl32(b + I(c,d,a) + W[9] + 0xeb86d391, 21)`. -/
def execMd5Step63 (s : State) : Host.Outcome State Fault Refusal :=
  md5MicroStep fnI .b 9 0xeb86d391 21 s

end Sys2Proof.Machine
end

