-- ==== Sys2Proof/Machine/Text.lean ====
section
/-! DEFINITION. The meanings of the encode-only commands (40_encoders.md section 4). -/

namespace Sys2Proof.Machine

/-- `ENC8 s` (R108): `ENCOUT <- utf8(s)` ; respond `ENCOUT`. -/
def execEnc8 (u : List CodeUnit) (s : State) : Host.Outcome State Fault Refusal :=
  runCommand ⟨0b110#3, .string u⟩ (utf8 s.params.loneSurr u) (.encoded (utf8 s.params.loneSurr u)) s

/-- `ENC16 s` (R109): `ENCOUT <- utf16le(s)` ; respond `ENCOUT`. -/
def execEnc16 (u : List CodeUnit) (s : State) : Host.Outcome State Fault Refusal :=
  runCommand ⟨0b111#3, .string u⟩ (utf16le u) (.encoded (utf16le u)) s

end Sys2Proof.Machine
end

