-- ==== Sys2Proof/Machine/Dispatch.lean ====
section
/-! DEFINITION. The dispatch: one arm for each constructor of `Instr`, one direct call of its meaning. -/

namespace Sys2Proof.Machine

def exec (i : Instr) (s : State) : Host.Outcome State Fault Refusal :=
  match i with
  | .md5b m => Sys2Proof.Machine.execMd5b m s
  | .md4b m => Sys2Proof.Machine.execMd4b m s
  | .md5s u => Sys2Proof.Machine.execMd5s u s
  | .ntlm u => Sys2Proof.Machine.execNtlm u s
  | .enc8 u => Sys2Proof.Machine.execEnc8 u s
  | .enc16 u => Sys2Proof.Machine.execEnc16 u s
  | .md5Step0 => Sys2Proof.Machine.execMd5Step0 s
  | .md5Step1 => Sys2Proof.Machine.execMd5Step1 s
  | .md5Step2 => Sys2Proof.Machine.execMd5Step2 s
  | .md5Step3 => Sys2Proof.Machine.execMd5Step3 s
  | .md5Step4 => Sys2Proof.Machine.execMd5Step4 s
  | .md5Step5 => Sys2Proof.Machine.execMd5Step5 s
  | .md5Step6 => Sys2Proof.Machine.execMd5Step6 s
  | .md5Step7 => Sys2Proof.Machine.execMd5Step7 s
  | .md5Step8 => Sys2Proof.Machine.execMd5Step8 s
  | .md5Step9 => Sys2Proof.Machine.execMd5Step9 s
  | .md5Step10 => Sys2Proof.Machine.execMd5Step10 s
  | .md5Step11 => Sys2Proof.Machine.execMd5Step11 s
  | .md5Step12 => Sys2Proof.Machine.execMd5Step12 s
  | .md5Step13 => Sys2Proof.Machine.execMd5Step13 s
  | .md5Step14 => Sys2Proof.Machine.execMd5Step14 s
  | .md5Step15 => Sys2Proof.Machine.execMd5Step15 s
  | .md5Step16 => Sys2Proof.Machine.execMd5Step16 s
  | .md5Step17 => Sys2Proof.Machine.execMd5Step17 s
  | .md5Step18 => Sys2Proof.Machine.execMd5Step18 s
  | .md5Step19 => Sys2Proof.Machine.execMd5Step19 s
  | .md5Step20 => Sys2Proof.Machine.execMd5Step20 s
  | .md5Step21 => Sys2Proof.Machine.execMd5Step21 s
  | .md5Step22 => Sys2Proof.Machine.execMd5Step22 s
  | .md5Step23 => Sys2Proof.Machine.execMd5Step23 s
  | .md5Step24 => Sys2Proof.Machine.execMd5Step24 s
  | .md5Step25 => Sys2Proof.Machine.execMd5Step25 s
  | .md5Step26 => Sys2Proof.Machine.execMd5Step26 s
  | .md5Step27 => Sys2Proof.Machine.execMd5Step27 s
  | .md5Step28 => Sys2Proof.Machine.execMd5Step28 s
  | .md5Step29 => Sys2Proof.Machine.execMd5Step29 s
  | .md5Step30 => Sys2Proof.Machine.execMd5Step30 s
  | .md5Step31 => Sys2Proof.Machine.execMd5Step31 s
  | .md5Step32 => Sys2Proof.Machine.execMd5Step32 s
  | .md5Step33 => Sys2Proof.Machine.execMd5Step33 s
  | .md5Step34 => Sys2Proof.Machine.execMd5Step34 s
  | .md5Step35 => Sys2Proof.Machine.execMd5Step35 s
  | .md5Step36 => Sys2Proof.Machine.execMd5Step36 s
  | .md5Step37 => Sys2Proof.Machine.execMd5Step37 s
  | .md5Step38 => Sys2Proof.Machine.execMd5Step38 s
  | .md5Step39 => Sys2Proof.Machine.execMd5Step39 s
  | .md5Step40 => Sys2Proof.Machine.execMd5Step40 s
  | .md5Step41 => Sys2Proof.Machine.execMd5Step41 s
  | .md5Step42 => Sys2Proof.Machine.execMd5Step42 s
  | .md5Step43 => Sys2Proof.Machine.execMd5Step43 s
  | .md5Step44 => Sys2Proof.Machine.execMd5Step44 s
  | .md5Step45 => Sys2Proof.Machine.execMd5Step45 s
  | .md5Step46 => Sys2Proof.Machine.execMd5Step46 s
  | .md5Step47 => Sys2Proof.Machine.execMd5Step47 s
  | .md5Step48 => Sys2Proof.Machine.execMd5Step48 s
  | .md5Step49 => Sys2Proof.Machine.execMd5Step49 s
  | .md5Step50 => Sys2Proof.Machine.execMd5Step50 s
  | .md5Step51 => Sys2Proof.Machine.execMd5Step51 s
  | .md5Step52 => Sys2Proof.Machine.execMd5Step52 s
  | .md5Step53 => Sys2Proof.Machine.execMd5Step53 s
  | .md5Step54 => Sys2Proof.Machine.execMd5Step54 s
  | .md5Step55 => Sys2Proof.Machine.execMd5Step55 s
  | .md5Step56 => Sys2Proof.Machine.execMd5Step56 s
  | .md5Step57 => Sys2Proof.Machine.execMd5Step57 s
  | .md5Step58 => Sys2Proof.Machine.execMd5Step58 s
  | .md5Step59 => Sys2Proof.Machine.execMd5Step59 s
  | .md5Step60 => Sys2Proof.Machine.execMd5Step60 s
  | .md5Step61 => Sys2Proof.Machine.execMd5Step61 s
  | .md5Step62 => Sys2Proof.Machine.execMd5Step62 s
  | .md5Step63 => Sys2Proof.Machine.execMd5Step63 s
  | .md4Step0 => Sys2Proof.Machine.execMd4Step0 s
  | .md4Step1 => Sys2Proof.Machine.execMd4Step1 s
  | .md4Step2 => Sys2Proof.Machine.execMd4Step2 s
  | .md4Step3 => Sys2Proof.Machine.execMd4Step3 s
  | .md4Step4 => Sys2Proof.Machine.execMd4Step4 s
  | .md4Step5 => Sys2Proof.Machine.execMd4Step5 s
  | .md4Step6 => Sys2Proof.Machine.execMd4Step6 s
  | .md4Step7 => Sys2Proof.Machine.execMd4Step7 s
  | .md4Step8 => Sys2Proof.Machine.execMd4Step8 s
  | .md4Step9 => Sys2Proof.Machine.execMd4Step9 s
  | .md4Step10 => Sys2Proof.Machine.execMd4Step10 s
  | .md4Step11 => Sys2Proof.Machine.execMd4Step11 s
  | .md4Step12 => Sys2Proof.Machine.execMd4Step12 s
  | .md4Step13 => Sys2Proof.Machine.execMd4Step13 s
  | .md4Step14 => Sys2Proof.Machine.execMd4Step14 s
  | .md4Step15 => Sys2Proof.Machine.execMd4Step15 s
  | .md4Step16 => Sys2Proof.Machine.execMd4Step16 s
  | .md4Step17 => Sys2Proof.Machine.execMd4Step17 s
  | .md4Step18 => Sys2Proof.Machine.execMd4Step18 s
  | .md4Step19 => Sys2Proof.Machine.execMd4Step19 s
  | .md4Step20 => Sys2Proof.Machine.execMd4Step20 s
  | .md4Step21 => Sys2Proof.Machine.execMd4Step21 s
  | .md4Step22 => Sys2Proof.Machine.execMd4Step22 s
  | .md4Step23 => Sys2Proof.Machine.execMd4Step23 s
  | .md4Step24 => Sys2Proof.Machine.execMd4Step24 s
  | .md4Step25 => Sys2Proof.Machine.execMd4Step25 s
  | .md4Step26 => Sys2Proof.Machine.execMd4Step26 s
  | .md4Step27 => Sys2Proof.Machine.execMd4Step27 s
  | .md4Step28 => Sys2Proof.Machine.execMd4Step28 s
  | .md4Step29 => Sys2Proof.Machine.execMd4Step29 s
  | .md4Step30 => Sys2Proof.Machine.execMd4Step30 s
  | .md4Step31 => Sys2Proof.Machine.execMd4Step31 s
  | .md4Step32 => Sys2Proof.Machine.execMd4Step32 s
  | .md4Step33 => Sys2Proof.Machine.execMd4Step33 s
  | .md4Step34 => Sys2Proof.Machine.execMd4Step34 s
  | .md4Step35 => Sys2Proof.Machine.execMd4Step35 s
  | .md4Step36 => Sys2Proof.Machine.execMd4Step36 s
  | .md4Step37 => Sys2Proof.Machine.execMd4Step37 s
  | .md4Step38 => Sys2Proof.Machine.execMd4Step38 s
  | .md4Step39 => Sys2Proof.Machine.execMd4Step39 s
  | .md4Step40 => Sys2Proof.Machine.execMd4Step40 s
  | .md4Step41 => Sys2Proof.Machine.execMd4Step41 s
  | .md4Step42 => Sys2Proof.Machine.execMd4Step42 s
  | .md4Step43 => Sys2Proof.Machine.execMd4Step43 s
  | .md4Step44 => Sys2Proof.Machine.execMd4Step44 s
  | .md4Step45 => Sys2Proof.Machine.execMd4Step45 s
  | .md4Step46 => Sys2Proof.Machine.execMd4Step46 s
  | .md4Step47 => Sys2Proof.Machine.execMd4Step47 s

end Sys2Proof.Machine
end

