-- ==== Sys2Proof/Decode.lean ====
section
/-! DEFINITION. Decoding and encoding (30_encoding.md R70 to R82). `decode` is total on every code and rejects by name; `encode` is
written from the same encodings (R76, R77). `stepRows` is the USTEP7 part of the opcode table in the order of its selectors. -/

namespace Sys2Proof

/-- Why a code spells no instruction. -/
inductive DecodeError where
  /-- `OP` 100 or 101 (R80): reserved, spells no command. -/
  | reservedCommand (op : BitVec 3)
  /-- The operand is not of the type the `SRC` bit of `OP` asks for (R71, R72). -/
  | operandType (op : BitVec 3)
  /-- A selector that selects no row of the schedule: {1, 48} to {1, 63} (R81). -/
  | noStepRow (sel : BitVec 7)
  deriving DecidableEq, Repr

/-- The rows of MD5 round 1, selectors 0x00 to 0x0f (R146, R77). -/
def md5Round1Rows : List Instr :=
  [.md5Step0, .md5Step1, .md5Step2, .md5Step3, .md5Step4, .md5Step5, .md5Step6, .md5Step7,
   .md5Step8, .md5Step9, .md5Step10, .md5Step11, .md5Step12, .md5Step13, .md5Step14, .md5Step15]

/-- The rows of MD5 round 2, selectors 0x10 to 0x1f (R147, R77). -/
def md5Round2Rows : List Instr :=
  [.md5Step16, .md5Step17, .md5Step18, .md5Step19, .md5Step20, .md5Step21, .md5Step22, .md5Step23,
   .md5Step24, .md5Step25, .md5Step26, .md5Step27, .md5Step28, .md5Step29, .md5Step30, .md5Step31]

/-- The rows of MD5 round 3, selectors 0x20 to 0x2f (R148, R77). -/
def md5Round3Rows : List Instr :=
  [.md5Step32, .md5Step33, .md5Step34, .md5Step35, .md5Step36, .md5Step37, .md5Step38, .md5Step39,
   .md5Step40, .md5Step41, .md5Step42, .md5Step43, .md5Step44, .md5Step45, .md5Step46, .md5Step47]

/-- The rows of MD5 round 4, selectors 0x30 to 0x3f (R149, R77). -/
def md5Round4Rows : List Instr :=
  [.md5Step48, .md5Step49, .md5Step50, .md5Step51, .md5Step52, .md5Step53, .md5Step54, .md5Step55,
   .md5Step56, .md5Step57, .md5Step58, .md5Step59, .md5Step60, .md5Step61, .md5Step62, .md5Step63]

/-- The rows of MD4 round 1, selectors 0x40 to 0x4f (R177, R77). -/
def md4Round1Rows : List Instr :=
  [.md4Step0, .md4Step1, .md4Step2, .md4Step3, .md4Step4, .md4Step5, .md4Step6, .md4Step7,
   .md4Step8, .md4Step9, .md4Step10, .md4Step11, .md4Step12, .md4Step13, .md4Step14, .md4Step15]

/-- The rows of MD4 round 2, selectors 0x50 to 0x5f (R178, R77). -/
def md4Round2Rows : List Instr :=
  [.md4Step16, .md4Step17, .md4Step18, .md4Step19, .md4Step20, .md4Step21, .md4Step22, .md4Step23,
   .md4Step24, .md4Step25, .md4Step26, .md4Step27, .md4Step28, .md4Step29, .md4Step30, .md4Step31]

/-- The rows of MD4 round 3, selectors 0x60 to 0x6f (R179, R77). -/
def md4Round3Rows : List Instr :=
  [.md4Step32, .md4Step33, .md4Step34, .md4Step35, .md4Step36, .md4Step37, .md4Step38, .md4Step39,
   .md4Step40, .md4Step41, .md4Step42, .md4Step43, .md4Step44, .md4Step45, .md4Step46, .md4Step47]

/-- The 112 rows of format USTEP7; the place of a row is its selector (R77: `0x00 + j` for MD5 step `j`, `0x40 + j` for MD4 step
`j`). -/
def stepRows : List Instr :=
  md5Round1Rows ++ md5Round2Rows ++ md5Round3Rows ++ md5Round4Rows ++
    md4Round1Rows ++ md4Round2Rows ++ md4Round3Rows

/-- The row a selector selects (R74, R77); the selectors 0x70 to 0x7f select none (R81). -/
def decodeStep (sel : BitVec 7) : Except DecodeError Instr :=
  match stepRows[sel.toNat]? with
  | some i => .ok i
  | none => .error (.noStepRow sel)

/-- The command a request spells (R71, R76, R80). -/
def decodeRequest (r : Request) : Except DecodeError Instr :=
  match r.op.toNat, r.operand with
  | 0, .bytes m => .ok (.md5b m)
  | 1, .bytes m => .ok (.md4b m)
  | 2, .string u => .ok (.md5s u)
  | 3, .string u => .ok (.ntlm u)
  | 6, .string u => .ok (.enc8 u)
  | 7, .string u => .ok (.enc16 u)
  | 4, _ => .error (.reservedCommand r.op)
  | 5, _ => .error (.reservedCommand r.op)
  | _, _ => .error (.operandType r.op)

/-- The decoder, total on every code. -/
def decode (c : Code) : Except DecodeError Instr :=
  match c with
  | .cmd r => decodeRequest r
  | .ustep sel => decodeStep sel

/-- The code of an instruction: `OP` and the operand for a command (R76, R85), the selector for a micro-step (R77). -/
def encode (i : Instr) : Code :=
  match i with
  | .md5b m => .cmd ⟨0b000#3, .bytes m⟩
  | .md4b m => .cmd ⟨0b001#3, .bytes m⟩
  | .md5s u => .cmd ⟨0b010#3, .string u⟩
  | .ntlm u => .cmd ⟨0b011#3, .string u⟩
  | .enc8 u => .cmd ⟨0b110#3, .string u⟩
  | .enc16 u => .cmd ⟨0b111#3, .string u⟩
  | .md5Step0 => .ustep 0b0000000#7
  | .md5Step1 => .ustep 0b0000001#7
  | .md5Step2 => .ustep 0b0000010#7
  | .md5Step3 => .ustep 0b0000011#7
  | .md5Step4 => .ustep 0b0000100#7
  | .md5Step5 => .ustep 0b0000101#7
  | .md5Step6 => .ustep 0b0000110#7
  | .md5Step7 => .ustep 0b0000111#7
  | .md5Step8 => .ustep 0b0001000#7
  | .md5Step9 => .ustep 0b0001001#7
  | .md5Step10 => .ustep 0b0001010#7
  | .md5Step11 => .ustep 0b0001011#7
  | .md5Step12 => .ustep 0b0001100#7
  | .md5Step13 => .ustep 0b0001101#7
  | .md5Step14 => .ustep 0b0001110#7
  | .md5Step15 => .ustep 0b0001111#7
  | .md5Step16 => .ustep 0b0010000#7
  | .md5Step17 => .ustep 0b0010001#7
  | .md5Step18 => .ustep 0b0010010#7
  | .md5Step19 => .ustep 0b0010011#7
  | .md5Step20 => .ustep 0b0010100#7
  | .md5Step21 => .ustep 0b0010101#7
  | .md5Step22 => .ustep 0b0010110#7
  | .md5Step23 => .ustep 0b0010111#7
  | .md5Step24 => .ustep 0b0011000#7
  | .md5Step25 => .ustep 0b0011001#7
  | .md5Step26 => .ustep 0b0011010#7
  | .md5Step27 => .ustep 0b0011011#7
  | .md5Step28 => .ustep 0b0011100#7
  | .md5Step29 => .ustep 0b0011101#7
  | .md5Step30 => .ustep 0b0011110#7
  | .md5Step31 => .ustep 0b0011111#7
  | .md5Step32 => .ustep 0b0100000#7
  | .md5Step33 => .ustep 0b0100001#7
  | .md5Step34 => .ustep 0b0100010#7
  | .md5Step35 => .ustep 0b0100011#7
  | .md5Step36 => .ustep 0b0100100#7
  | .md5Step37 => .ustep 0b0100101#7
  | .md5Step38 => .ustep 0b0100110#7
  | .md5Step39 => .ustep 0b0100111#7
  | .md5Step40 => .ustep 0b0101000#7
  | .md5Step41 => .ustep 0b0101001#7
  | .md5Step42 => .ustep 0b0101010#7
  | .md5Step43 => .ustep 0b0101011#7
  | .md5Step44 => .ustep 0b0101100#7
  | .md5Step45 => .ustep 0b0101101#7
  | .md5Step46 => .ustep 0b0101110#7
  | .md5Step47 => .ustep 0b0101111#7
  | .md5Step48 => .ustep 0b0110000#7
  | .md5Step49 => .ustep 0b0110001#7
  | .md5Step50 => .ustep 0b0110010#7
  | .md5Step51 => .ustep 0b0110011#7
  | .md5Step52 => .ustep 0b0110100#7
  | .md5Step53 => .ustep 0b0110101#7
  | .md5Step54 => .ustep 0b0110110#7
  | .md5Step55 => .ustep 0b0110111#7
  | .md5Step56 => .ustep 0b0111000#7
  | .md5Step57 => .ustep 0b0111001#7
  | .md5Step58 => .ustep 0b0111010#7
  | .md5Step59 => .ustep 0b0111011#7
  | .md5Step60 => .ustep 0b0111100#7
  | .md5Step61 => .ustep 0b0111101#7
  | .md5Step62 => .ustep 0b0111110#7
  | .md5Step63 => .ustep 0b0111111#7
  | .md4Step0 => .ustep 0b1000000#7
  | .md4Step1 => .ustep 0b1000001#7
  | .md4Step2 => .ustep 0b1000010#7
  | .md4Step3 => .ustep 0b1000011#7
  | .md4Step4 => .ustep 0b1000100#7
  | .md4Step5 => .ustep 0b1000101#7
  | .md4Step6 => .ustep 0b1000110#7
  | .md4Step7 => .ustep 0b1000111#7
  | .md4Step8 => .ustep 0b1001000#7
  | .md4Step9 => .ustep 0b1001001#7
  | .md4Step10 => .ustep 0b1001010#7
  | .md4Step11 => .ustep 0b1001011#7
  | .md4Step12 => .ustep 0b1001100#7
  | .md4Step13 => .ustep 0b1001101#7
  | .md4Step14 => .ustep 0b1001110#7
  | .md4Step15 => .ustep 0b1001111#7
  | .md4Step16 => .ustep 0b1010000#7
  | .md4Step17 => .ustep 0b1010001#7
  | .md4Step18 => .ustep 0b1010010#7
  | .md4Step19 => .ustep 0b1010011#7
  | .md4Step20 => .ustep 0b1010100#7
  | .md4Step21 => .ustep 0b1010101#7
  | .md4Step22 => .ustep 0b1010110#7
  | .md4Step23 => .ustep 0b1010111#7
  | .md4Step24 => .ustep 0b1011000#7
  | .md4Step25 => .ustep 0b1011001#7
  | .md4Step26 => .ustep 0b1011010#7
  | .md4Step27 => .ustep 0b1011011#7
  | .md4Step28 => .ustep 0b1011100#7
  | .md4Step29 => .ustep 0b1011101#7
  | .md4Step30 => .ustep 0b1011110#7
  | .md4Step31 => .ustep 0b1011111#7
  | .md4Step32 => .ustep 0b1100000#7
  | .md4Step33 => .ustep 0b1100001#7
  | .md4Step34 => .ustep 0b1100010#7
  | .md4Step35 => .ustep 0b1100011#7
  | .md4Step36 => .ustep 0b1100100#7
  | .md4Step37 => .ustep 0b1100101#7
  | .md4Step38 => .ustep 0b1100110#7
  | .md4Step39 => .ustep 0b1100111#7
  | .md4Step40 => .ustep 0b1101000#7
  | .md4Step41 => .ustep 0b1101001#7
  | .md4Step42 => .ustep 0b1101010#7
  | .md4Step43 => .ustep 0b1101011#7
  | .md4Step44 => .ustep 0b1101100#7
  | .md4Step45 => .ustep 0b1101101#7
  | .md4Step46 => .ustep 0b1101110#7
  | .md4Step47 => .ustep 0b1101111#7

/-- The empty operand of the type the `SRC` bit of a command code asks for (R71, R72). -/
def emptyOperand (op : BitVec 3) : Operand :=
  if op.getLsbD 1 then .string [] else .bytes []

/-- The code meant by a row's bits `w` where the row is given `nbits` bits. Both formats fit a byte, and a byte does not say which
it is of: 3 bits mean CMD3, 7 bits mean USTEP7, and of a whole byte the six codes of R76 mean the command with an empty operand
and every other value below 128 the selector. DESIGN CHOICE, log 10. -/
def tableCode (nbits w : Nat) : Option Code :=
  if 128 ≤ w then none
  else if nbits = 7 then some (.ustep (BitVec.ofNat 7 w))
  else if nbits < 7 ∧ 8 ≤ w then none
  else if nbits < 7 ∨ w < 4 ∨ w = 6 ∨ w = 7 then
    some (.cmd ⟨BitVec.ofNat 3 w, emptyOperand (BitVec.ofNat 3 w)⟩)
  else some (.ustep (BitVec.ofNat 7 w))

/-- The instruction the decoder reads from a row's bits (`tableCode`). -/
def decodeTableWord (nbits w : Nat) : Option Instr :=
  match tableCode nbits w with
  | none => none
  | some c =>
    match decode c with
    | .ok i => some i
    | .error _ => none

end Sys2Proof
end

