-- ==== Sys2Proof/Machine/Sequencer.lean ====
section
/-! DEFINITION. The phases of an operation (45_sequencer.md R214 to R219), each as one transition of the state. -/

namespace Sys2Proof.Machine

/-- `ENCODE` (R214): `MSG <- utf8(S)` or `utf16le(S)`; then `ENCOUT <- MSG ; PHASE <- OUT` if `ENC_ONLY = 1`, else `PHASE <- PAD`. -/
def encodePhase (s : State) : State :=
  let m := encodeString s.params.loneSurr (opAlg s.op) s.str
  if opEncOnly s.op then { s with msg := m, encout := m, phase := .out } else { s with msg := m, phase := .pad }

/-- `PAD` (R215): `LEN <- L mod 2^32 ; PBS <- pad(MSG) ; PHASE <- INIT`; `LEN` is what the length field is computed from
(10_state.md R26). -/
def padPhase (s : State) : State :=
  { s with len := lenOf s.msg, pbs := padWith (lenOf s.msg) s.msg, phase := .init }

/-- `INIT` (R216): the initial values, `blk <- 0 ; PHASE <- LOAD`. -/
def initPhase (s : State) : State :=
  { s with regs := initRegs, blk := 0, phase := .load }

/-- `LOAD` (R217): the words of block `blk`, the save, `step <- 0 ; PHASE <- STEP`. -/
def loadPhase (s : State) : State :=
  { s with w := wordsOf (blockAt s.pbs s.blk), saved := s.regs, stepIdx := 0, phase := .step }

/-- After a micro-step (R217): "if `step = NSTEPS`, `PHASE <- FEED`; otherwise `PHASE` stays `STEP`". -/
def afterMicroStep (s : State) : State :=
  { s with phase := if s.stepIdx = nSteps (opAlg s.op) then .feed else .step }

/-- `FEED` (R218): the feed-forward, `blk <- blk + 1`, then `PHASE <- OUT` if `blk = N`, otherwise `PHASE <- LOAD`. -/
def feedPhase (s : State) : State :=
  { s with
    regs := s.regs.add s.saved, blk := s.blk + 1
    phase := if s.blk + 1 = numBlocks s.pbs then .out else .load }

/-- The writes of `OUT` for a digest command (R219): `DIGEST <- serialise(a, b, c, d) ; HEX <- hex(DIGEST)`. -/
def writeDigest (s : State) : State :=
  { s with digest := serialise s.regs, hex := hexOf (serialise s.regs) }

/-- The write of `OUT` for an encode-only command: the output buffers "are written in phase `OUT`" (10_state.md R30), and what `ENCOUT`
holds is `MSG` (R214), which ENCODE has written there too (log 15). -/
def writeEncout (s : State) : State :=
  { s with encout := s.msg }

/-- `OUT` (R219): the output buffers are written (R30) and the response is delivered from them, then the end of the operation. -/
def outPhase (s : State) : State :=
  if opEncOnly s.op then (writeEncout s).respond (.encoded (writeEncout s).encout)
  else (writeDigest s).respond (.digest (writeDigest s).digest (writeDigest s).hex)

end Sys2Proof.Machine
end

