-- ==== Sys2Proof/Machine/Fetch.lean ====
section
/-! DEFINITION. What the instance does next (45_sequencer.md R212, R213: "from every phase exactly one transition is enabled"): in IDLE
the next offered request, in STEP the micro-step that `{ALG, step}` selects, in every other phase the phase's own transition. -/

namespace Sys2Proof.Machine

/-- What the next step is. -/
inductive Fetch where
  /-- An instruction, run on this state. -/
  | instr (i : Instr) (s : State)
  /-- A transition of the sequencer that runs no instruction. -/
  | internal (s : State)
  | fault (f : Fault)
  | refused (r : Refusal)
  deriving DecidableEq, Repr

/-- The selector `{ALG, step}` (30_encoding.md R74); `step` has six bits there, so none is formed from 64 on (log 9). -/
def selector (s : State) : Option (BitVec 7) :=
  if s.stepIdx < 64 then
    some (BitVec.ofNat 7 ((match opAlg s.op with | .md5 => 0 | .md4 => 64) + s.stepIdx))
  else none

/-- The refusal of a code that spells no command. -/
def refusalOf (e : DecodeError) (r : Request) : Refusal :=
  match e with
  | .reservedCommand op => .reservedCommand op
  | .operandType op => .operandType op
  | .noStepRow _ => .operandType r.op

/-- IDLE (R212): the oldest offered request, taken from the requester's list; with none offered, an idle instance holds
`PHASE = IDLE` (60_exceptions.md R239). -/
def fetchRequest (s : State) : Fetch :=
  match s.offered with
  | [] => .internal s
  | r :: rest =>
    match decodeRequest r with
    | .ok i => .instr i { s with offered := rest }
    | .error e => .refused (refusalOf e r)

/-- STEP (R217): the micro-step numbered `step` of the running algorithm; a number without a row is stuck (R81, log 11). -/
def fetchStep (s : State) : Fetch :=
  match selector s with
  | none => .fault .noStepRow
  | some sel =>
    match decodeStep sel with
    | .ok i => .instr i s
    | .error _ => .fault .noStepRow

/-- LOAD (R217), stuck on a block that is not within `PBS` (log 11). -/
def fetchLoad (s : State) : Fetch :=
  if s.blk < numBlocks s.pbs then .internal (loadPhase s) else .fault .noBlock

/-- The next step (R213). -/
def fetch (s : State) : Fetch :=
  match s.phase with
  | .idle => fetchRequest s
  | .encode => .internal (encodePhase s)
  | .pad => .internal (padPhase s)
  | .init => .internal (initPhase s)
  | .load => fetchLoad s
  | .step => fetchStep s
  | .feed => .internal (feedPhase s)
  | .out => .internal (outPhase s)

/-- What the sequencer adds after an instruction fetched in phase `p`: `afterMicroStep` after a micro-step (R217), nothing after a
command. -/
def afterInstr (p : Phase) (o : Host.Outcome State Fault Refusal) : Host.Outcome State Fault Refusal :=
  match p, o with
  | .step, .next s => .next (afterMicroStep s)
  | _, o => o

/-- `s` with a request first in the list of those offered, on an idle instance (log 4). -/
def placeRequest (r : Request) (s : State) : State :=
  { s with phase := .idle, resetApplied := false, offered := r :: s.offered }

/-- `s` with a micro-step selected: `PHASE = STEP`, `OP` the digest command of the selector's `ALG` on bytes, `step` its low six
bits (log 4, log 10). -/
def placeStep (sel : BitVec 7) (s : State) : State :=
  { s with
    phase := .step, resetApplied := false
    op := if sel.getLsbD 6 then 0b001#3 else 0b000#3
    stepIdx := sel.toNat % 64 }

/-- `s` with a code where the next step fetches it. -/
def placeCode (c : Code) (s : State) : State :=
  match c with
  | .cmd r => placeRequest r s
  | .ustep sel => placeStep sel s

end Sys2Proof.Machine
end

