-- ==== Sys2Proof/Machine/Step.lean ====
section
/-! DEFINITION. One step of the instance: reset if it is applied (70_reset_and_hazards.md R261), else what `fetch` gives. -/

namespace Sys2Proof.Machine

/-- One step. -/
def step (s : State) : Host.Outcome State Fault Refusal :=
  if s.resetApplied then .next s.applyReset
  else
    match fetch s with
    | .instr i t => afterInstr s.phase (exec i t)
    | .internal t => .next t
    | .fault f => .fault f
    | .refused r => .refused r

/-- `s` with the instruction of a table row placed where the next step fetches it (log 4, log 10); `s` itself where the bits are no
code. -/
def State.withFetchWord (s : State) (nbits w : Nat) : State :=
  match tableCode nbits w with
  | some c => placeCode c s
  | none => s

end Sys2Proof.Machine
end

