-- ==== Sys2Proof/Machine/System.lean ====
section
/-! DEFINITION. Several instances side by side (10_state.md R33, 60_exceptions.md R240): a list of instance states, and a schedule that
says which instance takes the next step. Log 17. -/

namespace Sys2Proof.Machine

/-- The instances of a system; they have no identifiers of their own (R240), the place in the list is the observer's. -/
abbrev System := List State

/-- One step of an instance within a system; an instance that cannot step stays as it is ("nothing happens, no state changes",
30_encoding.md R80). -/
def State.advance (s : State) : State :=
  match step s with
  | .next t => t
  | _ => s

/-- `n` steps of one instance on its own. -/
def State.advances (s : State) : Nat → State
  | 0 => s
  | n + 1 => (s.advance).advances n

/-- The instances after the steps of a schedule, each entry the place of the instance that steps. -/
def System.run (sys : System) : List Nat → System
  | [] => sys
  | k :: rest => System.run (sys.modify k State.advance) rest

end Sys2Proof.Machine
end

