-- ==== Sys2Proof/WellFormed.lean ====
section
/-! DEFINITION. Which codes and instructions are within the domain of an instance (30_encoding.md R71, R72, R80, R81; 60_exceptions.md
R231). A well-formed code spells an instruction; a well-formed instruction's message is within `P_MAX_MSG_BYTES`. -/

namespace Sys2Proof

/-- The operand is of the type the `SRC` bit asks for (R71, R72). -/
def Request.operandFits (r : Request) : Bool :=
  match r.operand with
  | .bytes _ => !Machine.opSrc r.op
  | .string _ => Machine.opSrc r.op

/-- `OP` is one of the six codes of R76: `ENC_ONLY = 1` with `SRC = 0` is reserved (R80). -/
def Request.opDefined (r : Request) : Bool :=
  !(Machine.opEncOnly r.op && !Machine.opSrc r.op)

/-- The selector selects a row (R81). -/
def stepDefined (sel : BitVec 7) : Bool :=
  decide (sel.toNat < 112)

/-- A request an instance with parameters `p` accepts when it is idle (R212, R231). -/
def Request.wellFormed (p : Params) (r : Request) : Bool :=
  r.opDefined && r.operandFits && Machine.admits p (Machine.requestMessage p r).length

/-- A well-formed code. -/
def Code.wellFormed (p : Params) (c : Code) : Bool :=
  match c with
  | .cmd r => r.wellFormed p
  | .ustep sel => stepDefined sel

/-- A well-formed instruction of an instance with parameters `p`. -/
def Instr.wellFormed (p : Params) (i : Instr) : Bool :=
  (encode i).wellFormed p

end Sys2Proof
end

