-- ==== Sys2Proof/Safety.lean ====
section
/-! DEFINITION. What claims about the core are stated in: the response and the number of small steps of a request, the invariant of
the sequencer, and the second forms the spec gives of things the model defines once (roles by index, the renaming form of the MD5
step, strings without unpaired surrogates, reading UTF-8 bits back). -/

namespace Sys2Proof.Machine

/-- The response the spec gives a request (30_encoding.md R76): the digest of its message and the hex of it, or the message itself
for an encode-only command. -/
def responseTo (p : Params) (r : Request) : Response :=
  if opEncOnly r.op then .encoded (requestMessage p r)
  else digestResponse (digestOf (opAlg r.op) (requestMessage p r))

/-- The number of phase executions of a digest of the message `m` from INIT on: INIT, for each block LOAD, NSTEPS micro-steps and
FEED, then OUT (45_sequencer.md R221). -/
def compressSteps (alg : Alg) (m : List Byte) : Nat :=
  1 + numBlocks (pad m) * (nSteps alg + 2) + 1

/-- The number of phase executions of an operation (R221; R213 for an encode-only command); its acceptance is not counted. -/
def opSteps (p : Params) (r : Request) : Nat :=
  (if opSrc r.op then 1 else 0) +
    (if opEncOnly r.op then 1 else 1 + compressSteps (opAlg r.op) (requestMessage p r))

/-- Steps that are enough to serve a list of requests phase by phase: for each its acceptance and its phase executions (R221). -/
def serveSteps (p : Params) (rs : List Request) : Nat :=
  (rs.map fun r => opSteps p r + 1).sum

/-- An idle instance to which no reset is applied. -/
def Ready (s : State) : Prop :=
  s.phase = .idle ∧ s.resetApplied = false

/-- The message of the running operation, whether or not ENCODE has formed it yet. -/
def State.message (s : State) : List Byte :=
  if s.phase = .encode then encodeString s.params.loneSurr (opAlg s.op) s.str else s.msg

/-- The response of the running operation. -/
def State.expected (s : State) : Response :=
  if opEncOnly s.op then .encoded s.message else digestResponse (digestOf (opAlg s.op) s.message)

/-- A string operand's message is what the encoder made of it (45_sequencer.md R214), and it is within the instance's domain. -/
def Formed (s : State) : Prop :=
  (opSrc s.op = true → s.msg = encodeString s.params.loneSurr (opAlg s.op) s.str) ∧
    admits s.params s.msg.length = true

/-- A digest command is running and its message is padded (R215). -/
def Padded (s : State) : Prop :=
  opEncOnly s.op = false ∧ Formed s ∧ s.len = lenOf s.msg ∧ s.pbs = pad s.msg

/-- Block `blk` is in work: it exists, its words are loaded and the chaining value before it is saved (R217). -/
def InBlock (s : State) : Prop :=
  Padded s ∧ s.blk < numBlocks s.pbs ∧ s.w = wordsOf (blockAt s.pbs s.blk) ∧
    s.saved = chain (opAlg s.op) s.pbs s.blk

/-- The invariant of the sequencer, phase by phase: between operations no item holds a value (10_state.md R35), and inside one every
item holds what the functional rules give it at that point (45_sequencer.md R210). -/
def SequencerInv (s : State) : Prop :=
  match s.phase with
  | .idle => s = s.released
  | .encode =>
    opSrc s.op = true ∧ admits s.params (encodeString s.params.loneSurr (opAlg s.op) s.str).length = true
  | .pad => opEncOnly s.op = false ∧ Formed s
  | .init => Padded s
  | .load => Padded s ∧ s.blk < numBlocks s.pbs ∧ s.regs = chain (opAlg s.op) s.pbs s.blk
  | .step =>
    InBlock s ∧ s.stepIdx < nSteps (opAlg s.op) ∧ s.regs = stepsRegs (opAlg s.op) s.w s.saved s.stepIdx
  | .feed =>
    InBlock s ∧ s.stepIdx = nSteps (opAlg s.op) ∧ s.regs = stepsRegs (opAlg s.op) s.w s.saved s.stepIdx
  | .out =>
    if opEncOnly s.op then opSrc s.op = true ∧ Formed s ∧ s.encout = s.msg
    else Padded s ∧ s.blk = numBlocks s.pbs ∧ s.regs = chain (opAlg s.op) s.pbs s.blk

/-- `x[i]` by its index modulo 4 (10_state.md R21). -/
def xReg (i : Nat) : RegName :=
  match i % 4 with
  | 0 => .a
  | 1 => .b
  | 2 => .c
  | _ => .d

/-- The register in role `q` (0 `ra`, 1 `rb`, 2 `rc`, 3 `rd`) of step `j`: `x[(q - j) mod 4]` (42_md5.md R145), where `- j` is
`3 j` modulo 4. -/
def role (j q : Nat) : RegName := xReg (q + 3 * j)

/-- One MD5 step in the renaming form (R145): `v = b + rotl32(a + f(b,c,d) + W[k] + T[j], s)` and `(a, b, c, d) <- (d, v, b, c)`. -/
def renamedStep (j : Nat) (w : Vector Word 16) (r : Regs) : Regs :=
  ⟨r.d, r.b + rotl32 (r.a + md5Fn j r.b r.c r.d + w.get (md5K j) + md5T j) (md5S j), r.b, r.c⟩

/-- Steps `0 .. n-1` in the renaming form. -/
def renamedSteps (w : Vector Word 16) (r : Regs) : Nat → Regs
  | 0 => r
  | n + 1 => renamedStep n w (renamedSteps w r n)

/-- Instructions run one after the other, up to the first that does not go on. -/
def execAll (rows : List Instr) (s : State) : Host.Outcome State Fault Refusal :=
  match rows with
  | [] => .next s
  | i :: rest =>
    match exec i s with
    | .next t => execAll rest t
    | o => o

/-- The string has no unpaired surrogate (40_encoders.md R105), pairing greedily from the left (R104). -/
def noLoneSurrogate : List CodeUnit → Bool
  | [] => true
  | [u] => !isSurrogate u
  | u :: v :: rest =>
    if isHigh u && isLow v then noLoneSurrogate rest else !isSurrogate u && noLoneSurrogate (v :: rest)

/-- The `x` bits of one encoded character, most significant first (R103): what the bytes of a row carry. -/
def scalarBits (bs : List Byte) : Nat :=
  match bs with
  | [b0] => b0.toNat % 128
  | [b0, b1] => b0.toNat % 32 * 64 + b1.toNat % 64
  | [b0, b1, b2] => (b0.toNat % 16 * 64 + b1.toNat % 64) * 64 + b2.toNat % 64
  | [b0, b1, b2, b3] => ((b0.toNat % 8 * 64 + b1.toNat % 64) * 64 + b2.toNat % 64) * 64 + b3.toNat % 64
  | _ => 0

/-- A continuation byte, `10xxxxxx` (R103). -/
def isCont (b : Byte) : Bool := b.toNat / 64 == 2

/-- The fixed bits of the bytes of one encoded character are those of the row of its length (R103). -/
def scalarShape (bs : List Byte) : Bool :=
  match bs with
  | [b0] => b0.toNat / 128 == 0
  | [b0, b1] => b0.toNat / 32 == 6 && isCont b1
  | [b0, b1, b2] => b0.toNat / 16 == 14 && isCont b1 && isCont b2
  | [b0, b1, b2, b3] => b0.toNat / 8 == 30 && isCont b1 && isCont b2 && isCont b3
  | _ => false

/-- The number of bytes of a code point, by its range alone (R103). -/
def scalarLength (cp : Nat) : Nat :=
  if cp ≤ 0x7F then 1 else if cp ≤ 0x7FF then 2 else if cp ≤ 0xFFFF then 3 else 4

end Sys2Proof.Machine
end

