-- ==== Sys2Proof/Certificates/Slice0/Obligations.lean ====
section
/-! DEFINITION. The statements for the provers. Each docstring names the rule of spec/ it formalises. "Ready" is an idle instance with no
reset applied; `params.granularity` is the model's own field (log 3): `.operation` merges an operation into one step
(45_sequencer.md R210, R222), `.phase` runs the transitions of R213. -/

open Sys2Proof
open Sys2Proof.Machine

/-! ### Encoding -/

/-- 30_encoding.md R76, R77: every code that decodes is the code of the instruction it decodes to, and every instruction's code decodes
to it; with every operand. -/
def Obligations.DecodeAndEncodeAgree : Prop :=
  ∀ (c : Code) (i : Instr), decode c = .ok i ↔ encode i = c

/-- R76, R80, R81: of the codes with an operand of its type exactly those of a defined `OP` decode, and exactly the selectors below 0x70. That
a request whose operand is not of the type R71 and R72 give its `OP` does not decode is the model's choice: DEDUCED, log 7. -/
def Obligations.DefinedCodesAndNoOthersDecode : Prop :=
  (∀ r : Request, (∃ i, decode (.cmd r) = .ok i) ↔ (r.opDefined = true ∧ r.operandFits = true)) ∧
  (∀ sel : BitVec 7, (∃ i, decode (.ustep sel) = .ok i) ↔ sel.toNat < 112)

/-- R80: an idle instance refuses `OP` 100 and 101, whatever the operand. -/
def Obligations.ReservedCommandsAreRefused : Prop :=
  ∀ (s : State) (x : Operand) (op : BitVec 3) (rest : List Request), Ready s → (op = 0b100#3 ∨ op = 0b101#3) →
    s.offered = ⟨op, x⟩ :: rest → step s = .refused (.reservedCommand op)

/-- Words written out from R76 and R77 decode to the instructions they stand for (a sanity statement). -/
def Obligations.WrittenOutCodesDecode : Prop :=
  decode (.cmd ⟨0b000#3, .bytes [0x61, 0x62, 0x63]⟩) = .ok (.md5b [0x61, 0x62, 0x63]) ∧
  decode (.cmd ⟨0b011#3, .string [0x70, 0x61]⟩) = .ok (.ntlm [0x70, 0x61]) ∧
  decode (.cmd ⟨0b110#3, .string [0xe9]⟩) = .ok (.enc8 [0xe9]) ∧
  decode (.ustep 0b0000011#7) = .ok .md5Step3 ∧
  decode (.ustep 0b0111111#7) = .ok .md5Step63 ∧
  decode (.ustep 0b1000000#7) = .ok .md4Step0 ∧
  decode (.ustep 0b1101111#7) = .ok .md4Step47

/-! ### The step -/

/-- 45_sequencer.md R212: an idle instance takes an offered request. That it is the oldest one and that it leaves the list of those offered
is the model's choice: DESIGN CHOICE, log 4. -/
def Obligations.StepRunsTheOfferedCommand : Prop :=
  ∀ (s : State) (r : Request) (rest : List Request) (i : Instr), Ready s → s.offered = r :: rest →
    decode (.cmd r) = .ok i → step s = exec i { s with offered := rest }

/-- R217: in phase STEP the instance runs the micro-step that `{ALG, step}` selects; then `PHASE <- FEED` if `step = NSTEPS`, and
`PHASE` stays STEP otherwise. -/
def Obligations.StepRunsTheSelectedMicroStep : Prop :=
  ∀ (s : State) (sel : BitVec 7) (i : Instr), s.phase = .step → s.resetApplied = false → s.stepIdx < 64 →
    sel.toNat = (if s.op.getLsbD 0 then 64 else 0) + s.stepIdx → decode (.ustep sel) = .ok i →
    ∃ t, exec i s = .next t ∧
      step s = .next { t with phase := if t.stepIdx = (if t.op.getLsbD 0 then 48 else 64) then .feed else .step }

/-- 60_exceptions.md R239: an idle instance with nothing offered holds its state. -/
def Obligations.IdleInstanceHoldsItsState : Prop :=
  ∀ s : State, Ready s → s.offered = [] → step s = .next s

/-- 70_reset_and_hazards.md R261: reset in any phase leaves an idle instance, delivers no response, and leaves no item of the abandoned
operation. (That what is offered stays offered is the model's choice, log 6, and is not stated here.) -/
def Obligations.ResetAbandonsTheOperation : Prop :=
  ∀ s : State, s.resetApplied = true → ∃ t, step s = .next t ∧ t.busy = false ∧ t.delivered = s.delivered ∧
    t = { State.reset with params := s.params, offered := t.offered, delivered := s.delivered }

/-- 10_state.md R34: after reset `PHASE = IDLE` and `BUSY = 0`; its section 4: `MSG` and `PBS` are empty. That the instance after reset is one
without a bound on the message (the default of R6 of 00_scope.md) is the model's choice: DESIGN CHOICE, log 2. -/
def Obligations.ResetStateIsIdleAndEmpty : Prop :=
  State.reset.phase = .idle ∧ State.reset.busy = false ∧ State.reset.msg = [] ∧ State.reset.pbs = [] ∧
    State.reset.params.maxMsgBytes = none

/-! ### The commands -/

/-- 42_md5.md R160, R161 and 43_md4.md R190, R191 (R76): on a ready instance that merges an operation into one step (the model's field
`granularity`, log 3), the digest commands answer a next state: the response (`DIGEST`, `HEX`) of their message is delivered (log 5) and
every other item is as after reset (R35). -/
def Obligations.DigestCommandsDeliverTheirDigest : Prop :=
  ∀ s : State, Ready s → s.params.granularity = .operation →
    (∀ m : List Byte, admits s.params m.length = true →
      exec (.md5b m) s = .next
        { State.reset with
          params := s.params, offered := s.offered, delivered := s.delivered ++ [.digest (md5 m) (hexOf (md5 m))] } ∧
      exec (.md4b m) s = .next
        { State.reset with
          params := s.params, offered := s.offered, delivered := s.delivered ++ [.digest (md4 m) (hexOf (md4 m))] }) ∧
    (∀ u : List CodeUnit, admits s.params (utf8 s.params.loneSurr u).length = true →
      exec (.md5s u) s = .next
        { State.reset with
          params := s.params, offered := s.offered
          delivered := s.delivered ++
            [.digest (md5 (utf8 s.params.loneSurr u)) (hexOf (md5 (utf8 s.params.loneSurr u)))] }) ∧
    (∀ u : List CodeUnit, admits s.params (utf16le u).length = true →
      exec (.ntlm u) s = .next
        { State.reset with
          params := s.params, offered := s.offered
          delivered := s.delivered ++ [.digest (md4 (utf16le u)) (hexOf (md4 (utf16le u)))] })

/-- 40_encoders.md R108, R109 (R76): likewise (log 3, log 5) the encode-only commands deliver `ENCOUT`. -/
def Obligations.EncodeOnlyCommandsDeliverTheirBytes : Prop :=
  ∀ (s : State) (u : List CodeUnit), Ready s → s.params.granularity = .operation →
    (admits s.params (utf8 s.params.loneSurr u).length = true →
      exec (.enc8 u) s = .next
        { State.reset with
          params := s.params, offered := s.offered
          delivered := s.delivered ++ [.encoded (utf8 s.params.loneSurr u)] }) ∧
    (admits s.params (utf16le u).length = true →
      exec (.enc16 u) s = .next
        { State.reset with
          params := s.params, offered := s.offered, delivered := s.delivered ++ [.encoded (utf16le u)] })

/-- R212: a ready instance that runs phase by phase (log 3) accepts each of the six commands: `OP` and the operand are latched, `PHASE` is
ENCODE for a string, PAD with `MSG` the operand for bytes, so that `BUSY` is set; a busy instance holds the request, which is again the next one offered (log 12). -/
def Obligations.CommandsAreAcceptedWhenIdleAndHeldWhenBusy : Prop :=
  ∀ (i : Instr) (r : Request) (s : State), encode i = .cmd r →
    (s.busy = true → exec i s = .next { s with offered := r :: s.offered }) ∧
    (Ready s → s.params.granularity = .phase → i.wellFormed s.params = true →
      ∃ t, exec i s = .next t ∧ t.busy = true ∧
        t = match r.operand with
          | .bytes m => { s with op := r.op, msg := m, phase := .pad }
          | .string u => { s with op := r.op, str := u, phase := .encode })

/-- 60_exceptions.md R231: a command whose message is longer than `P_MAX_MSG_BYTES` is refused by an idle instance; an unbounded instance
refuses no command for its length. -/
def Obligations.OverlongMessagesAreRefused : Prop :=
  ∀ (i : Instr) (r : Request) (s : State), encode i = .cmd r → s.busy = false →
    (∀ n, s.params.maxMsgBytes = some n → n < (requestMessage s.params r).length →
      exec i s = .refused .messageTooLong) ∧
    (s.params.maxMsgBytes = none → ∃ t, exec i s = .next t)

/-- 30_encoding.md R86 (R161, R191): `MD5S s` is `MD5B (ENC8 s)` and `NTLM s` is `MD4B (ENC16 s)`, refusals included
(on an instance that merges an operation into one step, log 3). -/
def Obligations.StringDigestsAreDigestsOfTheEncodedString : Prop :=
  ∀ (s : State) (u : List CodeUnit), Ready s → s.params.granularity = .operation →
    exec (.md5s u) s = exec (.md5b (utf8 s.params.loneSurr u)) s ∧
    exec (.ntlm u) s = exec (.md4b (utf16le u)) s

/-- 60_exceptions.md R230, 00_scope.md R11: no instruction faults in any state, and every micro-step goes on. -/
def Obligations.NoInstructionFaults : Prop :=
  (∀ (i : Instr) (s : State) (f : Fault), exec i s ≠ .fault f) ∧
  (∀ (sel : BitVec 7) (i : Instr) (s : State), decode (.ustep sel) = .ok i → ∃ t, exec i s = .next t)

/-! ### The micro-steps. `role j q` is the register `x[(q - j) mod 4]` of 42_md5.md R145. -/

/-- 42_md5.md R146 (with R145): MD5 round 1, each of its sixteen rows in every state, with the rule's worked example. -/
def Obligations.Md5Round1RowsFollowTheirRule : Prop :=
  (∀ (j : Nat) (h : j < 16) (i : Instr) (s : State), md5Round1Rows[j]? = some i →
    exec i s = .next
      { s with
        regs := s.regs.set (role j 0) (s.regs.get (role j 1) +
          rotl32 (s.regs.get (role j 0) + fnF (s.regs.get (role j 1)) (s.regs.get (role j 2)) (s.regs.get (role j 3)) +
            s.w[j] + tableT.getD j 0) ([7, 12, 17, 22].getD (j % 4) 0))
        stepIdx := s.stepIdx + 1 }) ∧
  (∀ s : State, s.regs = ⟨0x67452301, 0xefcdab89, 0x98badcfe, 0x10325476⟩ → s.w[0] = 0x00000080 →
    exec .md5Step0 s = .next
      { s with regs := ⟨0xa5202774, 0xefcdab89, 0x98badcfe, 0x10325476⟩, stepIdx := s.stepIdx + 1 })

/-- R147: MD5 round 2, steps 16 to 31. -/
def Obligations.Md5Round2RowsFollowTheirRule : Prop :=
  ∀ (j : Nat) (i : Instr) (s : State), 16 ≤ j → md5Round2Rows[j - 16]? = some i →
    exec i s = .next
      { s with
        regs := s.regs.set (role j 0) (s.regs.get (role j 1) +
          rotl32 (s.regs.get (role j 0) + fnG5 (s.regs.get (role j 1)) (s.regs.get (role j 2)) (s.regs.get (role j 3)) +
            s.w[(5 * (j - 16) + 1) % 16] + tableT.getD j 0) ([5, 9, 14, 20].getD (j % 4) 0))
        stepIdx := s.stepIdx + 1 }

/-- R148: MD5 round 3, steps 32 to 47. -/
def Obligations.Md5Round3RowsFollowTheirRule : Prop :=
  ∀ (j : Nat) (i : Instr) (s : State), 32 ≤ j → md5Round3Rows[j - 32]? = some i →
    exec i s = .next
      { s with
        regs := s.regs.set (role j 0) (s.regs.get (role j 1) +
          rotl32 (s.regs.get (role j 0) + fnH (s.regs.get (role j 1)) (s.regs.get (role j 2)) (s.regs.get (role j 3)) +
            s.w[(3 * (j - 32) + 5) % 16] + tableT.getD j 0) ([4, 11, 16, 23].getD (j % 4) 0))
        stepIdx := s.stepIdx + 1 }

/-- R149: MD5 round 4, steps 48 to 63. -/
def Obligations.Md5Round4RowsFollowTheirRule : Prop :=
  ∀ (j : Nat) (i : Instr) (s : State), 48 ≤ j → md5Round4Rows[j - 48]? = some i →
    exec i s = .next
      { s with
        regs := s.regs.set (role j 0) (s.regs.get (role j 1) +
          rotl32 (s.regs.get (role j 0) + fnI (s.regs.get (role j 1)) (s.regs.get (role j 2)) (s.regs.get (role j 3)) +
            s.w[(7 * (j - 48)) % 16] + tableT.getD j 0) ([6, 10, 15, 21].getD (j % 4) 0))
        stepIdx := s.stepIdx + 1 }

/-- 43_md4.md R177 (with R176): MD4 round 1, each of its sixteen rows in every state, no constant, with the rule's worked example. -/
def Obligations.Md4Round1RowsFollowTheirRule : Prop :=
  (∀ (j : Nat) (h : j < 16) (i : Instr) (s : State), md4Round1Rows[j]? = some i →
    exec i s = .next
      { s with
        regs := s.regs.set (role j 0)
          (rotl32 (s.regs.get (role j 0) + fnF (s.regs.get (role j 1)) (s.regs.get (role j 2)) (s.regs.get (role j 3)) +
            s.w[j]) ([3, 7, 11, 19].getD (j % 4) 0))
        stepIdx := s.stepIdx + 1 }) ∧
  (∀ s : State, s.regs = ⟨0x67452301, 0xefcdab89, 0x98badcfe, 0x10325476⟩ → s.w[0] = 0x80636261 →
    exec .md4Step0 s = .next
      { s with regs := ⟨0x031b1304, 0xefcdab89, 0x98badcfe, 0x10325476⟩, stepIdx := s.stepIdx + 1 })

/-- R178: MD4 round 2, steps 16 to 31, constant 0x5a827999. -/
def Obligations.Md4Round2RowsFollowTheirRule : Prop :=
  ∀ (j : Nat) (i : Instr) (s : State), 16 ≤ j → md4Round2Rows[j - 16]? = some i →
    exec i s = .next
      { s with
        regs := s.regs.set (role j 0)
          (rotl32 (s.regs.get (role j 0) + fnG4 (s.regs.get (role j 1)) (s.regs.get (role j 2)) (s.regs.get (role j 3)) +
            s.w[(4 * ((j - 16) % 4) + (j - 16) / 4) % 16] + 0x5a827999) ([3, 5, 9, 13].getD (j % 4) 0))
        stepIdx := s.stepIdx + 1 }

/-- R179: MD4 round 3, steps 32 to 47, `k` the 4-bit reversal of `j - 32`, constant 0x6ed9eba1. -/
def Obligations.Md4Round3RowsFollowTheirRule : Prop :=
  ∀ (j : Nat) (i : Instr) (s : State), 32 ≤ j → md4Round3Rows[j - 32]? = some i →
    exec i s = .next
      { s with
        regs := s.regs.set (role j 0)
          (rotl32 (s.regs.get (role j 0) + fnH (s.regs.get (role j 1)) (s.regs.get (role j 2)) (s.regs.get (role j 3)) +
            s.w.get ((BitVec.ofNat 4 (j - 32)).reverse.toFin) + 0x6ed9eba1) ([3, 9, 11, 15].getD (j % 4) 0))
        stepIdx := s.stepIdx + 1 }

/-- 30_encoding.md R77, 42_md5.md R153, R151 and 43_md4.md R183, R181: the rows of the opcode table, run in order on the words of a block,
with the feed-forward after them, are the block functions; nothing else of the state changes. -/
def Obligations.TableRowsComputeTheBlockFunctions : Prop :=
  ∀ (s : State) (b : List Byte), s.w = wordsOf b →
    (∃ t, execAll (md5Round1Rows ++ md5Round2Rows ++ md5Round3Rows ++ md5Round4Rows) s = .next t ∧
      blockRegs .md5 s.regs b =
        ⟨t.regs.a + s.regs.a, t.regs.b + s.regs.b, t.regs.c + s.regs.c, t.regs.d + s.regs.d⟩ ∧
      t = { s with regs := t.regs, stepIdx := s.stepIdx + 64 }) ∧
    (∃ t, execAll (md4Round1Rows ++ md4Round2Rows ++ md4Round3Rows) s = .next t ∧
      blockRegs .md4 s.regs b =
        ⟨t.regs.a + s.regs.a, t.regs.b + s.regs.b, t.regs.c + s.regs.c, t.regs.d + s.regs.d⟩ ∧
      t = { s with regs := t.regs, stepIdx := s.stepIdx + 48 })

/-- 42_md5.md R152, 43_md4.md R182: a digest folds the block function over the blocks of the padded message, from the initial values. -/
def Obligations.DigestsFoldTheBlocksInOrder : Prop :=
  ∀ (alg : Alg) (m : List Byte), digestOf alg m =
    serialise ((List.range ((pad m).length / 64)).foldl (fun r i => blockRegs alg r (slice (pad m) (64 * i) 64))
      ⟨0x67452301, 0xefcdab89, 0x98badcfe, 0x10325476⟩)

/-- 42_md5.md R145: the form that renames instead of rotating roles. After step `n` it holds the values of the fixed-register form
under the rotation of names, and the same values in the same registers after every fourth step. -/
def Obligations.RenamingFormOfTheMd5StepAgrees : Prop :=
  ∀ (w : Vector Word 16) (r : Regs) (n : Nat),
    ((renamedSteps w r n).a = (stepsRegs .md5 w r n).get (role n 0) ∧
      (renamedSteps w r n).b = (stepsRegs .md5 w r n).get (role n 1) ∧
      (renamedSteps w r n).c = (stepsRegs .md5 w r n).get (role n 2) ∧
      (renamedSteps w r n).d = (stepsRegs .md5 w r n).get (role n 3)) ∧
    (n % 4 = 0 → renamedSteps w r n = stepsRegs .md5 w r n)

/-- 42_md5.md R141, 43_md4.md R171: the round functions, bit by bit. -/
def Obligations.RoundFunctionsActBitByBit : Prop :=
  ∀ (x y z : Word) (i : Nat), i < 32 →
    (fnF x y z).getLsbD i = (if x.getLsbD i then y.getLsbD i else z.getLsbD i) ∧
    (fnG5 x y z).getLsbD i = (if z.getLsbD i then x.getLsbD i else y.getLsbD i) ∧
    (fnG4 x y z).getLsbD i =
      decide (2 ≤ (x.getLsbD i).toNat + (y.getLsbD i).toNat + (z.getLsbD i).toNat) ∧
    (fnH x y z).getLsbD i =
      decide (((x.getLsbD i).toNat + (y.getLsbD i).toNat + (z.getLsbD i).toNat) % 2 = 1) ∧
    (fnI x y z).getLsbD i = (y.getLsbD i ^^ (x.getLsbD i || !z.getLsbD i))

/-- 00_scope.md R16: `rotl32` moves bit `i` to bit `(i + s) mod 32`, so it loses no bit. -/
def Obligations.RotationMovesEveryBit : Prop :=
  ∀ (x : Word) (s i : Nat), 1 ≤ s → s ≤ 31 → i < 32 → (rotl32 x s).getLsbD ((i + s) % 32) = x.getLsbD i

/-! ### The encoders -/

/-- 40_encoders.md R101: the bytes of `utf16le` place by place, and its length. -/
def Obligations.Utf16leEmitsEachUnitLowByteFirst : Prop :=
  ∀ s : List CodeUnit, (utf16le s).length = 2 * s.length ∧
    ∀ i u, s[i]? = some u →
      (utf16le s)[2 * i]? = some (BitVec.ofNat 8 (u.toNat % 256)) ∧
      (utf16le s)[2 * i + 1]? = some (BitVec.ofNat 8 (u.toNat / 256))

/-- R103: an encoded character has the length its range asks for, the fixed bits of that row, and carries the code point. -/
def Obligations.Utf8ScalarCarriesItsCodePoint : Prop :=
  ∀ cp : Nat, cp ≤ 0x10FFFF →
    (utf8Scalar cp).length = scalarLength cp ∧ scalarShape (utf8Scalar cp) = true ∧ scalarBits (utf8Scalar cp) = cp

/-- R104: from the left, a high surrogate immediately followed by a low one is one code point of four bytes; a surrogate that starts no
pair is unpaired; any other unit is its own code point; and nothing is emitted for the empty string. -/
def Obligations.Utf8PairsSurrogatesFromTheLeft : Prop :=
  ∀ (p : LoneSurr) (u : CodeUnit) (rest : List CodeUnit),
    utf8 p [] = [] ∧
    (∀ v tail, rest = v :: tail → (0xD800 ≤ u.toNat ∧ u.toNat ≤ 0xDBFF) → (0xDC00 ≤ v.toNat ∧ v.toNat ≤ 0xDFFF) →
      utf8 p (u :: rest) =
        utf8Scalar (0x10000 + (u.toNat - 0xD800) * 1024 + (v.toNat - 0xDC00)) ++ utf8 p tail ∧
      (utf8Scalar (0x10000 + (u.toNat - 0xD800) * 1024 + (v.toNat - 0xDC00))).length = 4) ∧
    ((0xD800 ≤ u.toNat ∧ u.toNat ≤ 0xDFFF) →
      (∀ v tail, rest = v :: tail → (u.toNat ≤ 0xDBFF) → ¬ (0xDC00 ≤ v.toNat ∧ v.toNat ≤ 0xDFFF)) →
      utf8 p (u :: rest) = loneBytes p u ++ utf8 p rest) ∧
    (¬ (0xD800 ≤ u.toNat ∧ u.toNat ≤ 0xDFFF) → utf8 p (u :: rest) = utf8Scalar u.toNat ++ utf8 p rest)

/-- R105: the two treatments of an unpaired surrogate, three bytes each, and a string without one does not depend on the parameter. -/
def Obligations.LoneSurrogatesFollowTheParameter : Prop :=
  (∀ u : CodeUnit, 0xD800 ≤ u.toNat → u.toNat ≤ 0xDFFF →
    utf8 .threeByte [u] =
      [BitVec.ofNat 8 (0xE0 + u.toNat / 4096), BitVec.ofNat 8 (0x80 + u.toNat / 64 % 64), BitVec.ofNat 8 (0x80 + u.toNat % 64)] ∧
    utf8 .replacement [u] = [0xEF, 0xBF, 0xBD]) ∧
  (∀ s : List CodeUnit, noLoneSurrogate s = true → utf8 .threeByte s = utf8 .replacement s)

/-- R106: on an ASCII string the UTF-8 encoder is the identity, whatever the parameter. -/
def Obligations.Utf8IsTheIdentityOnAscii : Prop :=
  ∀ (p : LoneSurr) (s : List CodeUnit), (∀ u ∈ s, u.toNat < 0x80) → utf8 p s = s.map (fun u => u.setWidth 8)

/-- R110: the lengths of both encodings: the bounds, and unit by unit. -/
def Obligations.EncodedLengthsAreBounded : Prop :=
  ∀ (p : LoneSurr) (s : List CodeUnit),
    (utf16le s).length = 2 * s.length ∧ s.length ≤ (utf8 p s).length ∧ (utf8 p s).length ≤ 3 * s.length ∧
    (∀ u : CodeUnit, (utf8 p [u]).length = if u.toNat < 0x80 then 1 else if u.toNat < 0x800 then 2 else 3) ∧
    (∀ u v : CodeUnit, (0xD800 ≤ u.toNat ∧ u.toNat ≤ 0xDBFF) → (0xDC00 ≤ v.toNat ∧ v.toNat ≤ 0xDFFF) →
      (utf8 p [u, v]).length = 4)

/-! ### Padding -/

/-- 41_padding.md R120 (and its `len_lo`, `len_hi`, R121): the message, 0x80, `z` zeros, the two length words, low word first, each least
significant byte first; `z` is `(55 - L) mod 64`, the least count that brings the length to 56 modulo 64. -/
def Obligations.PaddingAppendsItsThreeParts : Prop :=
  ∀ m : List Byte, ∃ z : Nat, z = (55 - (m.length : Int)) % 64 ∧ z ≤ 63 ∧
    pad m = m ++ [0x80] ++ List.replicate z 0x00 ++
      [8 * m.length % 2 ^ 32, m.length % 2 ^ 32 / 2 ^ 29].flatMap (fun v =>
        [BitVec.ofNat 8 v, BitVec.ofNat 8 (v / 256), BitVec.ofNat 8 (v / 65536), BitVec.ofNat 8 (v / 16777216)]) ∧
    (m.length + 1 + z) % 64 = 56 ∧ ∀ y < z, (m.length + 1 + y) % 64 ≠ 56

/-- R121, R122: the two halves of the length field; for every message below 2^32 bytes the last eight bytes of the padded message are the
64-bit little-endian bit length, and from there to 2^61 the field is not the bit length. -/
def Obligations.LengthFieldIsTheBitLengthBelow4GiB : Prop :=
  ∀ m : List Byte,
    (lenLo (lenOf m)).toNat = 8 * m.length % 2 ^ 32 ∧ (lenHi (lenOf m)).toNat = m.length % 2 ^ 32 / 2 ^ 29 ∧
    slice (pad m) ((pad m).length - 8) 8 = le32 (lenLo (lenOf m)) ++ le32 (lenHi (lenOf m)) ∧
    (m.length < 2 ^ 32 → ∀ k < 8,
      (pad m)[(pad m).length - 8 + k]? = some (BitVec.ofNat 8 (8 * m.length / 256 ^ k))) ∧
    (2 ^ 32 ≤ m.length → m.length < 2 ^ 61 →
      (lenLo (lenOf m)).toNat + 2 ^ 32 * (lenHi (lenOf m)).toNat ≠ 8 * m.length)

/-- R123: the length of the padded message, the number of its blocks, and where 0x80 and the length field stand: the last block is the
one of 0x80 when `L mod 64 <= 55`, and one more otherwise. -/
def Obligations.PaddedMessageIsWholeBlocks : Prop :=
  ∀ m : List Byte,
    (pad m).length = m.length + 1 + zeroCount m.length + 8 ∧ (pad m).length = 64 * numBlocks (pad m) ∧
    numBlocks (pad m) = (m.length + 8) / 64 + 1 ∧
    numBlocks (pad m) - 1 = (if m.length % 64 ≤ 55 then m.length / 64 else m.length / 64 + 1) ∧
    (blockAt (pad m) (m.length / 64))[m.length % 64]? = some 0x80

/-- R125: the five postconditions of `pad`. -/
def Obligations.PaddingMeetsItsPostconditions : Prop :=
  (∀ m : List Byte,
    (pad m).length % 64 = 0 ∧ 64 ≤ (pad m).length ∧ slice (pad m) 0 m.length = m ∧ (pad m)[m.length]? = some 0x80 ∧
    ∀ k, 1 ≤ k → k ≤ zeroCount m.length → (pad m)[m.length + k]? = some 0x00) ∧
  (∀ m n : List Byte, m.length < 2 ^ 32 → n.length < 2 ^ 32 → pad m = pad n → m = n) ∧
  (∀ m n : List Byte, m.length = n.length → pad m = pad n → m = n)

/-- 20_memory.md R50, R51, 41_padding.md R124: the sixteen words of a block are little-endian, and the last block's words 14 and 15 are
the two halves of the length field. -/
def Obligations.BlockWordsAreLittleEndian : Prop :=
  (∀ (b : List Byte) (k : Nat) (h : k < 16), b.length = 64 →
    ((wordsOf b)[k]).toNat =
      (b.getD (4 * k) 0).toNat + 256 * (b.getD (4 * k + 1) 0).toNat + 65536 * (b.getD (4 * k + 2) 0).toNat +
        16777216 * (b.getD (4 * k + 3) 0).toNat) ∧
  (∀ m : List Byte,
    (wordsOf (blockAt (pad m) (numBlocks (pad m) - 1)))[14] = lenLo (lenOf m) ∧
    (wordsOf (blockAt (pad m) (numBlocks (pad m) - 1)))[15] = lenHi (lenOf m))

/-! ### Output -/

/-- 44_digest_output.md R200, 20_memory.md R52: byte `4r + i` of the digest is bits `8i+7 : 8i` of register `x[r]`. -/
def Obligations.DigestBytesAreTheRegistersLittleEndian : Prop :=
  ∀ (x : Regs) (r i : Nat) (h : 4 * r + i < 16), i < 4 →
    (serialise x)[4 * r + i] = ((x.get (xReg r)) >>> (8 * i)).setWidth 8

/-- R201, 20_memory.md R55: characters `2i` and `2i + 1` of the hex string are the high and the low nibble of digest byte `i`, each the
ASCII code of a lowercase hex digit. -/
def Obligations.HexIsTwoLowercaseDigitsPerByte : Prop :=
  ∀ (dig : Vector Byte 16) (i : Nat) (h : i < 16),
    ((hexOf dig)[2 * i]).toNat = (fun v => if v < 10 then 0x30 + v else 0x61 + (v - 10)) ((dig[i]).toNat / 16) ∧
    ((hexOf dig)[2 * i + 1]).toNat = (fun v => if v < 10 then 0x30 + v else 0x61 + (v - 10)) ((dig[i]).toNat % 16)

/-- R203: `HEX` is an injective function of `DIGEST`. -/
def Obligations.HexDeterminesTheDigest : Prop :=
  ∀ d e : Vector Byte 16, hexOf d = hexOf e → d = e

/-! ### The phases -/

/-- 45_sequencer.md R214, R215: ENCODE and PAD. -/
def Obligations.EncodeAndPadPhases : Prop :=
  ∀ s : State, s.resetApplied = false →
    (s.phase = .encode → ∃ m,
      m = (if s.op.getLsbD 0 then utf16le s.str else utf8 s.params.loneSurr s.str) ∧
      step s = .next
        (if s.op.getLsbD 2 then { s with msg := m, encout := m, phase := .out }
         else { s with msg := m, phase := .pad })) ∧
    (s.phase = .pad → step s = .next
      { s with len := BitVec.ofNat 32 s.msg.length, pbs := pad s.msg, phase := .init })

/-- R216, R217, 42_md5.md R140, R150 and 43_md4.md R170, R180: INIT sets the initial values, the same for MD5 and MD4; LOAD reads the block's words, saves the
registers and clears `step`, for every block within the padded stream. -/
def Obligations.InitAndLoadPhases : Prop :=
  ∀ s : State, s.resetApplied = false →
    (s.phase = .init → step s = .next
      { s with regs := ⟨0x67452301, 0xefcdab89, 0x98badcfe, 0x10325476⟩, blk := 0, phase := .load }) ∧
    (s.phase = .load → 64 * s.blk + 64 ≤ s.pbs.length → step s = .next
      { s with
        w := Vector.ofFn fun k => memRead (slice s.pbs (64 * s.blk) 64) (4 * k.val)
        saved := s.regs, stepIdx := 0, phase := .step })

/-- R218, 42_md5.md R151, 43_md4.md R181: the feed-forward, and where it goes. -/
def Obligations.FeedPhaseAddsTheSavedRegisters : Prop :=
  ∀ s : State, s.resetApplied = false → s.phase = .feed → step s = .next
    { s with
      regs := ⟨s.regs.a + s.saved.a, s.regs.b + s.saved.b, s.regs.c + s.saved.c, s.regs.d + s.saved.d⟩
      blk := s.blk + 1
      phase := if s.blk + 1 = s.pbs.length / 64 then .out else .load }

/-- R219, 10_state.md R35: OUT delivers the digest and its hex, or `ENCOUT` where it holds `MSG`, as ENCODE leaves it (R214), and leaves
the state after reset, but for the requester's side (log 4, log 5) and the instance's constants. -/
def Obligations.OutPhaseDeliversAndClears : Prop :=
  ∀ s : State, s.resetApplied = false → s.phase = .out → (s.op.getLsbD 2 = true → s.encout = s.msg) → step s = .next
    { State.reset with
      params := s.params, offered := s.offered
      delivered := s.delivered ++
        [if s.op.getLsbD 2 then .encoded s.encout else .digest (serialise s.regs) (hexOf (serialise s.regs))] }

/-- R213: the order of the phases, from any state in which the next step goes on: nothing else can happen. (An idle instance stays idle
with nothing offered, or where it merges an operation into one step, log 3.) -/
def Obligations.PhasesFollowTheirOrder : Prop :=
  ∀ s t : State, s.resetApplied = false → step s = .next t →
    match s.phase with
    | .idle => t.phase = .idle ∨ (t.phase = .encode ∧ t.op.getLsbD 1 = true) ∨ (t.phase = .pad ∧ t.op.getLsbD 1 = false)
    | .encode => if s.op.getLsbD 2 then t.phase = .out else t.phase = .pad
    | .pad => t.phase = .init
    | .init => t.phase = .load
    | .load => t.phase = .step
    | .step => if s.stepIdx + 1 = nSteps (opAlg s.op) then t.phase = .feed else t.phase = .step
    | .feed => if s.blk + 1 = numBlocks s.pbs then t.phase = .out else t.phase = .load
    | .out => t.phase = .idle

/-! ### What a step leaves alone -/

/-- 00_scope.md R6, 10_state.md R29: no step, reset included, writes the instance's constants. -/
def Obligations.ParametersNeverChange : Prop :=
  ∀ s t : State, step s = .next t → t.params = s.params

/-- 10_state.md R29, R23 to R27, R30 and its section 4 ("written by"): while an operation runs `OP` and the operand stay as latched, and every
other item changes only in the phases that write it: the saved registers and the words in LOAD, the message in ENCODE, its length and
the padded stream in PAD, the registers in INIT, STEP and FEED, `blk` in INIT and FEED, `step` in LOAD and STEP, `ENCOUT` in ENCODE;
`DIGEST` and `HEX` not before OUT, which ends the operation. -/
def Obligations.RunningOperationKeepsWhatItLatched : Prop :=
  ∀ s t : State, s.resetApplied = false → s.busy = true → step s = .next t → t.busy = true →
    t.op = s.op ∧ t.str = s.str ∧
    (s.phase ≠ .load → t.saved = s.saved ∧ t.w = s.w) ∧
    (s.phase ≠ .encode → t.msg = s.msg) ∧
    (s.phase ≠ .pad → t.len = s.len ∧ t.pbs = s.pbs) ∧
    (s.phase ≠ .init → s.phase ≠ .step → s.phase ≠ .feed → t.regs = s.regs) ∧
    (s.phase ≠ .init → s.phase ≠ .feed → t.blk = s.blk) ∧
    (s.phase ≠ .load → s.phase ≠ .step → t.stepIdx = s.stepIdx) ∧
    (s.phase ≠ .encode → t.encout = s.encout) ∧
    t.digest = s.digest ∧ t.hex = s.hex

/-- 45_sequencer.md R211, R212: while an operation runs nothing is delivered before its end, and a request offered meanwhile has no effect
on it: it is held, not lost. -/
def Obligations.OffersWhileBusyHaveNoEffect : Prop :=
  ∀ (s t : State) (r : Request), s.resetApplied = false → s.busy = true → step s = .next t →
    t.offered = s.offered ∧ (t.busy = true → t.delivered = s.delivered) ∧
    step (s.offer r) = .next (t.offer r)

/-- R220: in the padding and compression phases the values of the message bytes, block words and registers do not influence control: two
states that agree in control and in lengths go on in agreement. -/
def Obligations.ControlDoesNotDependOnData : Prop :=
  ∀ s t s' : State, s.resetApplied = false → t.resetApplied = false → s.phase ≠ .idle → s.phase ≠ .encode →
    t.phase = s.phase → t.op = s.op → t.blk = s.blk → t.stepIdx = s.stepIdx →
    t.msg.length = s.msg.length → t.pbs.length = s.pbs.length → step s = .next s' → s'.busy = true →
    ∃ t', step t = .next t' ∧ t'.phase = s'.phase ∧ t'.op = s'.op ∧ t'.blk = s'.blk ∧ t'.stepIdx = s'.stepIdx ∧
      t'.msg.length = s'.msg.length ∧ t'.pbs.length = s'.pbs.length

/-! ### The invariant and whole operations -/

/-- The invariant of the sequencer holds after reset. -/
def Obligations.SequencerInvariantHoldsAtReset : Prop := SequencerInv State.reset

/-- 45_sequencer.md R210: the small steps compute what the functional rules give at every point, from every state that meets the
invariant. -/
def Obligations.StepKeepsTheSequencerInvariant : Prop :=
  ∀ s t : State, SequencerInv s → step s = .next t → SequencerInv t

/-- 30_encoding.md R81, 60_exceptions.md R230: under the invariant no step is stuck, and a busy instance goes on. -/
def Obligations.NoStepIsStuckUnderTheInvariant : Prop :=
  ∀ s : State, SequencerInv s → (∀ f, step s ≠ .fault f) ∧ (s.busy = true → ∃ t, step s = .next t)

/-- 45_sequencer.md R210, R213, R221: phase by phase (log 3), a well-formed request on a ready instance takes its acceptance and the number of
phase executions of R221; until then the instance is busy and has delivered nothing; then it is as after reset and has delivered
the response of R76. -/
def Obligations.OperationTakesItsStepsAndDeliversItsResponse : Prop :=
  ∀ (s : State) (r : Request) (rest : List Request), Ready s → s.params.granularity = .phase →
    r.wellFormed s.params = true → s.offered = r :: rest →
    (∀ k, k < opSteps s.params r → ∃ t, Host.Core.run Sys2Proof.core (k + 1) s = .next t ∧ t.busy = true ∧
      t.delivered = s.delivered ∧ t.offered = rest) ∧
    Host.Core.run Sys2Proof.core (opSteps s.params r + 1) s = .next
      { State.reset with params := s.params, offered := rest, delivered := s.delivered ++ [responseTo s.params r] }

/-- 45_sequencer.md R222: merging the transitions of an operation changes nothing a claim can state: what one merged step (log 3) reaches,
the small steps reach. -/
def Obligations.MergedAndPhasedOperationsAgree : Prop :=
  ∀ (s t : State) (r : Request) (rest : List Request), Ready s → s.offered = r :: rest →
    step { s with params := { s.params with granularity := .operation } } = .next t →
    Host.Core.run Sys2Proof.core (opSteps s.params r + 1)
        { s with params := { s.params with granularity := .phase } } =
      .next { t with params := { s.params with granularity := .phase } }

/-- 70_reset_and_hazards.md R275: from every busy state that meets the invariant the operation ends within a bound that the message's
number of blocks gives, and its response is delivered. -/
def Obligations.EveryOperationEnds : Prop :=
  ∀ s : State, SequencerInv s → s.resetApplied = false → s.busy = true →
    ∃ k t, k ≤ numBlocks (pad s.message) * (nSteps (opAlg s.op) + 2) + 4 ∧
      Host.Core.run Sys2Proof.core k s = .next t ∧ t.busy = false ∧
      t.delivered = s.delivered ++ [s.expected]

/-- 10_state.md R32, 70_reset_and_hazards.md R263, R277: the response to a request depends on its command, its operand and the parameters
alone, whatever came before and whatever the registers hold. That a list of offers is served in order and none of them is lost or
withdrawn is the model's choice (DESIGN CHOICE, log 4), and so are the list delivered (log 5) and either granularity (log 3). -/
def Obligations.RequestsAreServedInOrderEachOnItsOwn : Prop :=
  ∀ s : State, Ready s → (∀ r ∈ s.offered, r.wellFormed s.params = true) →
    ∃ k t, Host.Core.run Sys2Proof.core k s = .next t ∧ t.busy = false ∧ t.offered = [] ∧
      t.delivered = s.delivered ++ s.offered.map (responseTo s.params)

/-- 10_state.md R33, 60_exceptions.md R240: several instances side by side (log 17: a system is a list of instances, and a schedule says
which takes the next step). A ready instance of well-formed offers, whatever the other instances are and do, is idle again once the
schedule has given it the steps of its own operations, and has delivered the responses that its own offers give, those of R76 (served
in order: log 4, log 5; in either granularity: log 3). -/
def Obligations.InstancesServeTheirOwnOffersInAnySchedule : Prop :=
  ∀ (sys : Sys2Proof.Machine.System) (schedule : List Nat) (n : Nat) (s : State), sys[n]? = some s → Ready s →
    (∀ r ∈ s.offered, r.wellFormed s.params = true) → serveSteps s.params s.offered ≤ schedule.count n →
    (sys.run schedule)[n]? = some
      (if s.offered = [] then s
       else { State.reset with
         params := s.params, offered := []
         delivered := s.delivered ++ s.offered.map (responseTo s.params) })

/-- 10_state.md R30, R214: for an encode-only command OUT writes `ENCOUT` itself, from `MSG`, and delivers that, whatever `ENCOUT` held
before. (That the value written in OUT is `MSG` is DEDUCED, log 15.) -/
def Obligations.OutWritesTheEncoderOutputItDelivers : Prop :=
  ∀ s : State, s.resetApplied = false → s.phase = .out → s.op.getLsbD 2 = true →
    ∃ t, step s = .next t ∧ t.busy = false ∧ t.delivered = s.delivered ++ [.encoded s.msg] ∧
      step { s with encout := s.msg } = .next t
end

