-- ==== Sys2Proof/Laws/Compress.lean ====
section
/-! SUPPORT. Registers by name and by role: reading after writing, and how the roles of a step move to the next one (42_md5.md R145). -/

namespace Sys2Proof.Machine

/-- Reading a working register after a write. -/
theorem Regs.get_set (r : Regs) (n m : RegName) (v : Word) : (r.set n v).get m = if m = n then v else r.get m := by
  cases n <;> cases m <;> rfl

theorem xReg_congr (i k : Nat) (h : i % 4 = k % 4) : xReg i = xReg k := by unfold xReg; rw [h]

/-- The roles of step `j` in fixed registers, and the roles of step `j + 1` in those of step `j`. -/
theorem role_eqs (j : Nat) : (role j 0 = destOf j) ∧ role j 1 = roleB (destOf j) ∧ role j 2 = roleC (destOf j) ∧ role j 3 = roleD (destOf j) ∧
   role (j+1) 0 = role j 3 ∧ role (j+1) 1 = role j 0 ∧ role (j+1) 2 = role j 1 ∧ role (j+1) 3 = role j 2 := by
  have : j % 4 = 0 ∨ j % 4 = 1 ∨ j % 4 = 2 ∨ j % 4 = 3 := by omega
  have e : ∀ q, role j q = xReg (q + 3 * (j % 4)) := fun q => xReg_congr _ _ (by omega)
  have e2 : ∀ q, role (j+1) q = xReg (q + 3 + 3 * (j % 4)) := fun q => xReg_congr _ _ (by omega)
  rw [e, e, e, e, e2, e2, e2, e2]
  rcases this with h | h | h | h <;> rw [destOf, h] <;> exact ⟨rfl, rfl, rfl, rfl, rfl, rfl, rfl, rfl⟩

/-- The other three roles are other registers. -/
theorem roles_ne_dest (n : RegName) : roleB n ≠ n ∧ roleC n ≠ n ∧ roleD n ≠ n := by cases n <;> decide

end Sys2Proof.Machine
end

