-- ==== Sys2Proof/Laws/Decode.lean ====
section
/-! SUPPORT. Decoding and encoding, row by row. -/

namespace Sys2Proof

/-- The row at place `n` of the table has selector `n`: checked on all 112 rows. -/
theorem stepRows_selectors :
    stepRows.map encode = (List.range 112).map (fun n => Code.ustep (BitVec.ofNat 7 n)) := by
  decide +kernel

theorem stepRows_length : stepRows.length = 112 := by decide +kernel

/-- A decoded selector is the selector of the row it decodes to. -/
theorem encode_of_decodeStep {sel : BitVec 7} {i : Instr} (h : decodeStep sel = .ok i) : encode i = .ustep sel := by
  unfold decodeStep at h
  split at h
  · next k hk =>
    cases h
    have hlt : sel.toNat < 112 := by
      have := (List.getElem?_eq_some_iff.mp hk).1
      rwa [stepRows_length] at this
    have h2 := congrArg (fun l => l[sel.toNat]?) stepRows_selectors
    simp [hk, hlt] at h2
    exact h2
  · cases h

/-- A selector decodes exactly when it is below 0x70 (30_encoding.md R81). -/
theorem decodeStep_isOk_iff (sel : BitVec 7) : (∃ i, decodeStep sel = .ok i) ↔ sel.toNat < 112 := by
  unfold decodeStep
  rw [← stepRows_length]
  constructor
  · rintro ⟨i, h⟩
    split at h
    · next hk => exact (List.getElem?_eq_some_iff.mp hk).1
    · cases h
  · intro h
    exact ⟨_, by rw [List.getElem?_eq_getElem h]⟩

/-- What `decodeRequest` answers with, case by case (R76). -/
theorem decodeRequest_ok_cases {r : Request} {i : Instr} (h : decodeRequest r = .ok i) :
    (∃ m, r = ⟨0b000#3, .bytes m⟩ ∧ i = .md5b m) ∨ (∃ m, r = ⟨0b001#3, .bytes m⟩ ∧ i = .md4b m) ∨
    (∃ u, r = ⟨0b010#3, .string u⟩ ∧ i = .md5s u) ∨ (∃ u, r = ⟨0b011#3, .string u⟩ ∧ i = .ntlm u) ∨
    (∃ u, r = ⟨0b110#3, .string u⟩ ∧ i = .enc8 u) ∨ (∃ u, r = ⟨0b111#3, .string u⟩ ∧ i = .enc16 u) := by
  obtain ⟨op, x⟩ := r
  unfold decodeRequest at h
  have hop : ∀ n, op.toNat = n → op = BitVec.ofNat 3 n := by
    intro n hn; subst hn; simp
  split at h <;> cases h
  all_goals
    next hn hx =>
    have := hop _ hn
    simp at hx
    subst this hx
    simp

end Sys2Proof
end

