-- ==== Sys2Proof/Laws/Encoders.lean ====
section
/-! SUPPORT. The encoders byte by byte, and where the UTF-8 encoder takes one unit. -/

namespace Sys2Proof.Machine

theorem mul_two_pow_or (k a n : Nat) (ha : a < 2^n) : (k * 2^n) ||| a = k * 2^n + a := by
  have h := Nat.two_pow_add_eq_or_of_lt ha k
  rw [Nat.mul_comm]; omega

/-- A continuation byte as a number (40_encoders.md R103). -/
theorem contByte_toNat (v : Nat) : (contByte v).toNat = 128 + v % 64 := by
  unfold contByte
  have h1 : v &&& 0x3F = v % 64 := Nat.and_two_pow_sub_one_eq_mod v 6
  have h2 : 0x80 ||| (v % 64) = 128 + v % 64 := by
    have := mul_two_pow_or 2 (v % 64) 6 (by omega); simpa using this
  rw [h1, h2]; simp; omega

/-- The lead bytes as numbers (R103). -/
theorem leadTwo_toNat (v : Nat) (h : v < 32) : (BitVec.ofNat 8 (0xC0 ||| v)).toNat = 192 + v := by
  have := mul_two_pow_or 6 v 5 (by omega)
  simp only [show (6 * 2^5) = 0xC0 from rfl] at this
  rw [this]; simp; omega

theorem leadThree_toNat (v : Nat) (h : v < 16) : (BitVec.ofNat 8 (0xE0 ||| v)).toNat = 224 + v := by
  have := mul_two_pow_or 14 v 4 (by omega)
  simp only [show (14 * 2^4) = 0xE0 from rfl] at this
  rw [this]; simp; omega

theorem leadFour_toNat (v : Nat) (h : v < 8) : (BitVec.ofNat 8 (0xF0 ||| v)).toNat = 240 + v := by
  have := mul_two_pow_or 30 v 3 (by omega)
  simp only [show (30 * 2^3) = 0xF0 from rfl] at this
  rw [this]; simp; omega

theorem utf8Scalar_length_four (cp : Nat) (h : 0xFFFF < cp) : (utf8Scalar cp).length = 4 := by
  unfold utf8Scalar; rw [if_neg (by omega), if_neg (by omega), if_neg (by omega)]; rfl

/-- A unit that starts no pair stands alone (R104). -/
theorem utf8_cons (p : LoneSurr) (u : CodeUnit) (rest : List CodeUnit) (h : ∀ v tail, rest = v :: tail → (isHigh u && isLow v) = false) :
    utf8 p (u :: rest) = unpairedBytes p u ++ utf8 p rest := by
  cases rest with
  | nil => simp [utf8]
  | cons v tail => rw [utf8, if_neg]; simpa using h v tail rfl

theorem unpairedBytes_length (p u) : 1 ≤ (unpairedBytes p u).length ∧ (unpairedBytes p u).length ≤ 3 := by
  unfold unpairedBytes
  split
  · cases p <;> simp [loneBytes]
  · unfold utf8Scalar
    split; · simp
    split; · simp
    split; · simp
    · have := u.isLt; omega

theorem utf16le_length (s : List CodeUnit) : (utf16le s).length = 2 * s.length := by
  induction s with
  | nil => rfl
  | cons u s ih => simp only [utf16le, List.flatMap_cons, List.length_append, List.length_cons] at *; rw [ih]; simp [unitBytes]; omega

end Sys2Proof.Machine
end

