-- ==== Sys2Proof/Laws/State.lean ====
section
/-! SUPPORT. One lemma per field for every named update of the state, each true by `rfl`, so that no later proof unfolds an update. -/

namespace Sys2Proof.Machine

variable (s : State) (r : Request) (x : Response)

@[simp] theorem State.released_params : s.released.params = s.params := rfl
@[simp] theorem State.released_phase : s.released.phase = .idle := rfl
@[simp] theorem State.released_offered : s.released.offered = s.offered := rfl
@[simp] theorem State.released_delivered : s.released.delivered = s.delivered := rfl
@[simp] theorem State.released_resetApplied : s.released.resetApplied = s.resetApplied := rfl
@[simp] theorem State.released_released : s.released.released = s.released := rfl
@[simp] theorem State.released_msg : s.released.msg = [] := rfl
@[simp] theorem State.released_pbs : s.released.pbs = [] := rfl

@[simp] theorem State.deliver_delivered : (s.deliver x).delivered = s.delivered ++ [x] := rfl
@[simp] theorem State.deliver_params : (s.deliver x).params = s.params := rfl
@[simp] theorem State.deliver_phase : (s.deliver x).phase = s.phase := rfl
@[simp] theorem State.deliver_offered : (s.deliver x).offered = s.offered := rfl
@[simp] theorem State.deliver_resetApplied : (s.deliver x).resetApplied = s.resetApplied := rfl

@[simp] theorem State.respond_delivered : (s.respond x).delivered = s.delivered ++ [x] := rfl
@[simp] theorem State.respond_params : (s.respond x).params = s.params := rfl
@[simp] theorem State.respond_phase : (s.respond x).phase = .idle := rfl
@[simp] theorem State.respond_offered : (s.respond x).offered = s.offered := rfl
@[simp] theorem State.respond_resetApplied : (s.respond x).resetApplied = s.resetApplied := rfl
@[simp] theorem State.respond_released : (s.respond x).released = s.respond x := rfl

@[simp] theorem State.applyReset_params : s.applyReset.params = s.params := rfl
@[simp] theorem State.applyReset_phase : s.applyReset.phase = .idle := rfl
@[simp] theorem State.applyReset_offered : s.applyReset.offered = s.offered := rfl
@[simp] theorem State.applyReset_delivered : s.applyReset.delivered = s.delivered := rfl
@[simp] theorem State.applyReset_resetApplied : s.applyReset.resetApplied = false := rfl
@[simp] theorem State.applyReset_released : s.applyReset.released = s.applyReset := rfl

@[simp] theorem State.offer_offered : (s.offer r).offered = s.offered ++ [r] := rfl
@[simp] theorem State.offer_phase : (s.offer r).phase = s.phase := rfl
@[simp] theorem State.offer_resetApplied : (s.offer r).resetApplied = s.resetApplied := rfl
@[simp] theorem State.hold_offered : (s.hold r).offered = r :: s.offered := rfl
@[simp] theorem State.hold_phase : (s.hold r).phase = s.phase := rfl
@[simp] theorem State.hold_params : (s.hold r).params = s.params := rfl
@[simp] theorem State.hold_delivered : (s.hold r).delivered = s.delivered := rfl

theorem State.accept_bytes (op : BitVec 3) (m : List Byte) :
    s.accept ⟨op, .bytes m⟩ = { s with op := op, msg := m, phase := .pad } := rfl
theorem State.accept_string (op : BitVec 3) (u : List CodeUnit) :
    s.accept ⟨op, .string u⟩ = { s with op := op, str := u, phase := .encode } := rfl
@[simp] theorem State.accept_op : (s.accept r).op = r.op := by unfold State.accept; split <;> rfl
@[simp] theorem State.accept_params : (s.accept r).params = s.params := by unfold State.accept; split <;> rfl
@[simp] theorem State.accept_offered : (s.accept r).offered = s.offered := by unfold State.accept; split <;> rfl
@[simp] theorem State.accept_delivered : (s.accept r).delivered = s.delivered := by unfold State.accept; split <;> rfl
@[simp] theorem State.accept_resetApplied : (s.accept r).resetApplied = s.resetApplied := by
  unfold State.accept; split <;> rfl

@[simp] theorem afterMicroStep_op : (afterMicroStep s).op = s.op := rfl
@[simp] theorem afterMicroStep_regs : (afterMicroStep s).regs = s.regs := rfl
@[simp] theorem afterMicroStep_stepIdx : (afterMicroStep s).stepIdx = s.stepIdx := rfl
@[simp] theorem afterMicroStep_delivered : (afterMicroStep s).delivered = s.delivered := rfl
@[simp] theorem writeDigest_digest : (writeDigest s).digest = serialise s.regs := rfl
@[simp] theorem writeDigest_hex : (writeDigest s).hex = hexOf (serialise s.regs) := rfl
@[simp] theorem writeDigest_delivered : (writeDigest s).delivered = s.delivered := rfl
@[simp] theorem writeEncout_encout : (writeEncout s).encout = s.msg := rfl
@[simp] theorem writeEncout_delivered : (writeEncout s).delivered = s.delivered := rfl

theorem feedPhase_phase :
    (feedPhase s).phase = if s.blk + 1 = numBlocks s.pbs then .out else .load := rfl
@[simp] theorem feedPhase_blk : (feedPhase s).blk = s.blk + 1 := rfl

theorem encodePhase_of_digest {s : State} (h : opEncOnly s.op = false) :
    encodePhase s = { s with msg := encodeString s.params.loneSurr (opAlg s.op) s.str, phase := .pad } := by
  simp [encodePhase, h]
theorem encodePhase_of_encOnly {s : State} (h : opEncOnly s.op = true) :
    encodePhase s =
      { s with
        msg := encodeString s.params.loneSurr (opAlg s.op) s.str
        encout := encodeString s.params.loneSurr (opAlg s.op) s.str, phase := .out } := by
  simp [encodePhase, h]
@[simp] theorem encodePhase_params : (encodePhase s).params = s.params := by
  cases h : opEncOnly s.op <;> simp [encodePhase, h]
@[simp] theorem encodePhase_offered : (encodePhase s).offered = s.offered := by
  cases h : opEncOnly s.op <;> simp [encodePhase, h]
@[simp] theorem encodePhase_delivered : (encodePhase s).delivered = s.delivered := by
  cases h : opEncOnly s.op <;> simp [encodePhase, h]
@[simp] theorem encodePhase_resetApplied : (encodePhase s).resetApplied = s.resetApplied := by
  cases h : opEncOnly s.op <;> simp [encodePhase, h]

theorem outPhase_of_digest {s : State} (h : opEncOnly s.op = false) :
    outPhase s = s.respond (digestResponse (serialise s.regs)) := by
  simp only [outPhase, h]; rfl
theorem outPhase_of_encOnly {s : State} (h : opEncOnly s.op = true) : outPhase s = s.respond (.encoded s.msg) := by
  simp only [outPhase, h, if_true]; rfl
@[simp] theorem outPhase_params : (outPhase s).params = s.params := by
  cases h : opEncOnly s.op
  · rw [outPhase_of_digest h, State.respond_params]
  · rw [outPhase_of_encOnly h, State.respond_params]
@[simp] theorem outPhase_phase : (outPhase s).phase = .idle := by
  cases h : opEncOnly s.op
  · rw [outPhase_of_digest h, State.respond_phase]
  · rw [outPhase_of_encOnly h, State.respond_phase]
@[simp] theorem outPhase_offered : (outPhase s).offered = s.offered := by
  cases h : opEncOnly s.op
  · rw [outPhase_of_digest h, State.respond_offered]
  · rw [outPhase_of_encOnly h, State.respond_offered]
@[simp] theorem outPhase_resetApplied : (outPhase s).resetApplied = s.resetApplied := by
  cases h : opEncOnly s.op
  · rw [outPhase_of_digest h, State.respond_resetApplied]
  · rw [outPhase_of_encOnly h, State.respond_resetApplied]
@[simp] theorem outPhase_released : (outPhase s).released = outPhase s := by
  cases h : opEncOnly s.op
  · rw [outPhase_of_digest h, State.respond_released]
  · rw [outPhase_of_encOnly h, State.respond_released]

/-- `BUSY` is `PHASE != IDLE` (10_state.md R28). -/
theorem State.busy_iff : s.busy = true ↔ s.phase ≠ .idle := by
  cases h : s.phase <;> simp [State.busy, h]

theorem State.not_busy_iff : s.busy = false ↔ s.phase = .idle := by
  cases h : s.phase <;> simp [State.busy, h]

end Sys2Proof.Machine
end

