-- ==== Sys2Proof/Laws/MicroStep.lean ====
section
/-! SUPPORT. What a micro-step does, once for all rows: each row of the opcode table is the step of its number by the schedules. -/

namespace Sys2Proof.Machine

/-- What a micro-step writes: the working registers and `step` (42_md5.md R145, 43_md4.md R176). -/
def stepped (alg : Alg) (j : Nat) (s : State) : State :=
  { s with regs := stepRegs alg j s.w s.regs, stepIdx := s.stepIdx + 1 }

/-- Where the sequencer goes after a micro-step (45_sequencer.md R217). -/
theorem afterMicroStep_stepped_phase (alg : Alg) (j : Nat) (s : State) :
    (afterMicroStep (stepped alg j s)).phase = if s.stepIdx + 1 = nSteps (opAlg s.op) then .feed else .step := rfl

@[simp] theorem afterMicroStep_stepped_stepIdx (alg : Alg) (j : Nat) (s : State) :
    (afterMicroStep (stepped alg j s)).stepIdx = s.stepIdx + 1 := rfl

/-- Rows 0 to 63 of the table are the MD5 steps of the schedules (R153). -/
theorem exec_md5Row {j : Nat} (hj : j < 64) {i : Instr} (h : stepRows[j]? = some i) (s : State) :
    exec i s = .next (stepped .md5 j s) := by
  interval_cases j <;> (cases h; rfl)

/-- Rows 64 to 111 of the table are the MD4 steps of the schedules (R183). -/
theorem exec_md4Row {j : Nat} (hj : j < 48) {i : Instr} (h : stepRows[64 + j]? = some i) (s : State) :
    exec i s = .next (stepped .md4 j s) := by
  interval_cases j <;> (cases h; rfl)

/-- Every selected micro-step goes on, and writes the working registers and `step` only. -/
theorem exec_of_decodeStep {sel : BitVec 7} {i : Instr} (h : decodeStep sel = .ok i) (s : State) :
    exec i s = .next (stepped (if sel.toNat < 64 then .md5 else .md4) (sel.toNat % 64) s) := by
  have hlt := (decodeStep_isOk_iff sel).mp ⟨i, h⟩
  unfold decodeStep at h
  split at h
  · next k hk =>
    cases h
    by_cases h64 : sel.toNat < 64
    · rw [if_pos h64, Nat.mod_eq_of_lt h64]; exact exec_md5Row h64 hk s
    · obtain ⟨j, hj⟩ := Nat.exists_eq_add_of_le (Nat.not_lt.mp h64)
      rw [if_neg h64, hj, show (64 + j) % 64 = j by omega]
      exact exec_md4Row (by omega) (hj ▸ hk) s
  · cases h

/-- In phase STEP with a row for `step`, the fetched micro-step is the one of the running algorithm (45_sequencer.md R217). -/
theorem fetchStep_exec {s : State} (h : s.stepIdx < nSteps (opAlg s.op)) :
    ∃ i, fetchStep s = .instr i s ∧ exec i s = .next (stepped (opAlg s.op) s.stepIdx s) := by
  cases ha : opAlg s.op <;> rw [ha] at h <;> simp only [nSteps] at h
  · have hsel : selector s = some (BitVec.ofNat 7 s.stepIdx) := by simp [selector, ha, h]
    have hn : (BitVec.ofNat 7 s.stepIdx).toNat = s.stepIdx := by simp; omega
    obtain ⟨i, hi⟩ := (decodeStep_isOk_iff (BitVec.ofNat 7 s.stepIdx)).mpr (by omega)
    refine ⟨i, by simp only [fetchStep, hsel, hi], ?_⟩
    rw [exec_of_decodeStep hi, hn, if_pos h, Nat.mod_eq_of_lt h]
  · have hsel : selector s = some (BitVec.ofNat 7 (64 + s.stepIdx)) := by
      simp [selector, ha]; omega
    have hn : (BitVec.ofNat 7 (64 + s.stepIdx)).toNat = 64 + s.stepIdx := by simp; omega
    obtain ⟨i, hi⟩ := (decodeStep_isOk_iff (BitVec.ofNat 7 (64 + s.stepIdx))).mpr (by omega)
    refine ⟨i, by simp only [fetchStep, hsel, hi], ?_⟩
    rw [exec_of_decodeStep hi, hn, if_neg (by omega), show (64 + s.stepIdx) % 64 = s.stepIdx by omega]

end Sys2Proof.Machine
end

