-- ==== Sys2Proof/Laws/Padding.lean ====
section
/-! SUPPORT. The lengths of padding and blocks, the length field as numbers, and reading a word back. -/

namespace Sys2Proof.Machine

@[simp] theorem le32_length (v : Word) : (le32 v).length = 4 := rfl

theorem padWith_length (len : Word) (m : List Byte) :
    (padWith len m).length = m.length + zeroCount m.length + 9 := by
  simp [padWith]; omega

theorem pad_length_eq (m : List Byte) : (pad m).length = 64 * ((m.length + 8) / 64 + 1) := by
  simp only [pad, padWith_length, zeroCount]; omega

theorem numBlocks_pad_eq (m : List Byte) : numBlocks (pad m) = (m.length + 8) / 64 + 1 := by
  simp only [numBlocks, pad_length_eq]; omega

theorem numBlocks_pad_pos (m : List Byte) : 0 < numBlocks (pad m) := by
  simp [numBlocks_pad_eq]

/-- The length field as numbers (41_padding.md R121). -/
theorem lenLo_eq (m : List Byte) : lenLo (lenOf m) = BitVec.ofNat 32 (8 * m.length) := by
  apply BitVec.eq_of_toNat_eq; simp [lenLo, lenOf, Nat.shiftLeft_eq]; omega

theorem lenHi_eq (m : List Byte) : (lenHi (lenOf m)).toNat = m.length % 2 ^ 32 / 2 ^ 29 := by
  simp [lenHi, lenOf, Nat.shiftRight_eq_div_pow]

/-- The padded message with its length field apart. -/
theorem pad_split (m : List Byte) :
    pad m = (m ++ [0x80] ++ List.replicate (zeroCount m.length) 0x00) ++
      (le32 (lenLo (lenOf m)) ++ le32 (lenHi (lenOf m))) := by
  simp [pad, padWith]

theorem or_mul_two_pow (a b : Nat) (k : Nat) (h : a < 2^k) : a ||| (b * 2^k) = a + b * 2^k := by
  have := Nat.two_pow_add_eq_or_of_lt h b
  rw [Nat.or_comm, Nat.mul_comm b]; omega

/-- A word read from memory as a number (20_memory.md R50). -/
theorem memRead_toNat (b : List Byte) (a : Nat) : (memRead b a).toNat =
      (b.getD a 0).toNat + 256 * (b.getD (a + 1) 0).toNat + 65536 * (b.getD (a + 2) 0).toNat +
        16777216 * (b.getD (a + 3) 0).toNat := by
  unfold memRead byteAt
  generalize b.getD a 0 = x0
  generalize b.getD (a+1) 0 = x1
  generalize b.getD (a+2) 0 = x2
  generalize b.getD (a+3) 0 = x3
  have := x0.isLt; have := x1.isLt; have := x2.isLt; have := x3.isLt
  simp only [BitVec.toNat_or, BitVec.toNat_shiftLeft, BitVec.toNat_setWidth, Nat.shiftLeft_eq]
  rw [Nat.mod_eq_of_lt (by omega : x0.toNat < 2^32), Nat.mod_eq_of_lt (by omega : x1.toNat < 2^32), Nat.mod_eq_of_lt (by omega : x2.toNat < 2^32), Nat.mod_eq_of_lt (by omega : x3.toNat < 2^32)]
  rw [Nat.mod_eq_of_lt (by omega : x1.toNat * 2^8 < 2^32), Nat.mod_eq_of_lt (by omega : x2.toNat *2^16 < 2^32), Nat.mod_eq_of_lt (by omega : x3.toNat * 2^24< 2^32)]
  rw [or_mul_two_pow _ _ 8 (by omega), or_mul_two_pow _ _ 16 (by omega), or_mul_two_pow _ _ 24 (by omega)]
  omega

/-- Reading back a word written little-endian. -/
theorem memRead_le32 (l r : List Byte) (v : Word) : memRead (l ++ le32 v ++ r) l.length = v := by
  apply BitVec.eq_of_toNat_eq
  rw [memRead_toNat]
  have h : ∀ k, (l ++ le32 v ++ r).getD (l.length + k) 0 = (le32 v ++ r).getD k 0 := by
    intro k; rw [List.getD, List.getD, List.append_assoc, List.getElem?_append_right (by omega), Nat.add_sub_cancel_left]
  have h0 := h 0
  simp only [Nat.add_zero] at h0
  rw [h0, h 1, h 2, h 3]
  simp [le32, List.getD]
  have := v.isLt
  simp only [Nat.shiftRight_eq_div_pow]
  omega

theorem le32_injective {v w : Word} (h : le32 v = le32 w) : v = w := by
  have hv := memRead_le32 [] [] v
  have hw := memRead_le32 [] [] w
  rw [List.append_nil, List.nil_append] at hv hw
  rw [← hv, ← hw, h]

/-- The four bytes of a word as numbers. -/
theorem le32_eq_ofNat (v : Word) :
    le32 v = [BitVec.ofNat 8 v.toNat, BitVec.ofNat 8 (v.toNat / 256), BitVec.ofNat 8 (v.toNat / 65536), BitVec.ofNat 8 (v.toNat / 16777216)] := by
  have h : ∀ i : Nat, i < 4 → v.extractLsb' (8 * i) 8 = BitVec.ofNat 8 (v.toNat / 2 ^ (8 * i)) := by
    intro i _; apply BitVec.eq_of_toNat_eq; simp [Nat.shiftRight_eq_div_pow]
  exact congrArg₂ List.cons ((h 0 (by omega)).trans (by rw [Nat.mul_zero, Nat.pow_zero, Nat.div_one]))
    (congrArg₂ List.cons (h 1 (by omega))
    (congrArg₂ List.cons (h 2 (by omega)) (congrArg₂ List.cons (h 3 (by omega)) rfl)))

theorem lenLo_toNat (m : List Byte) : (lenLo (lenOf m)).toNat = 8 * m.length % 2^32 := by rw [lenLo_eq]; simp

end Sys2Proof.Machine
end

