-- ==== Sys2Proof/Laws/Ops.lean ====
section
/-! SUPPORT. What a command can do, once for the six of them. -/

namespace Sys2Proof.Machine

/-- A command held by a busy instance (45_sequencer.md R212). -/
theorem runCommand_busy {r : Request} {m : List Byte} {x : Response} {s : State} (h : s.busy = true) :
    runCommand r m x s = .next (s.hold r) := by
  simp [runCommand, h]

/-- A command merged into one step (R210). -/
theorem runCommand_merged {r : Request} {m : List Byte} {x : Response} {s : State} (h : s.busy = false)
    (ha : admits s.params m.length = true) (hg : s.params.granularity = .operation) :
    runCommand r m x s = .next (s.respond x) := by
  simp [runCommand, h, ha, hg]

/-- A command accepted (R212). -/
theorem runCommand_accepted {r : Request} {m : List Byte} {x : Response} {s : State} (h : s.busy = false)
    (ha : admits s.params m.length = true) (hg : s.params.granularity = .phase) :
    runCommand r m x s = .next (s.accept r) := by
  simp [runCommand, h, ha, hg]

/-- A command outside the instance's domain (60_exceptions.md R231). -/
theorem runCommand_tooLong {r : Request} {m : List Byte} {x : Response} {s : State} (h : s.busy = false)
    (ha : admits s.params m.length = false) : runCommand r m x s = .refused .messageTooLong := by
  simp [runCommand, h, ha]

/-- Everything a command can do where it goes on. -/
theorem runCommand_next_cases {r : Request} {m : List Byte} {x : Response} {s t : State}
    (h : runCommand r m x s = .next t) :
    (s.busy = true ∧ t = s.hold r) ∨
    (s.busy = false ∧ admits s.params m.length = true ∧ s.params.granularity = .operation ∧ t = s.respond x) ∨
    (s.busy = false ∧ admits s.params m.length = true ∧ s.params.granularity = .phase ∧ t = s.accept r) := by
  unfold runCommand at h
  split at h
  · cases h; simp_all
  · split at h
    · split at h <;> cases h <;> simp_all
    · cases h

theorem runCommand_ne_fault (r : Request) (m : List Byte) (x : Response) (s : State) (f : Fault) :
    runCommand r m x s ≠ .fault f := by
  unfold runCommand
  split
  · simp
  · split
    · split <;> simp
    · simp

/-- Of the six commands, those on bytes are digest commands (30_encoding.md R80), and the operand has its type (R72). -/
theorem request_cases {r : Request} {i : Instr} (h : decodeRequest r = .ok i) :
    (∃ m, r.operand = .bytes m ∧ opSrc r.op = false ∧ opEncOnly r.op = false) ∨
    (∃ u, r.operand = .string u ∧ opSrc r.op = true) := by
  rcases decodeRequest_ok_cases h with ⟨m, rfl, -⟩ | ⟨m, rfl, -⟩ | ⟨u, rfl, -⟩ | ⟨u, rfl, -⟩ | ⟨u, rfl, -⟩ |
    ⟨u, rfl, -⟩ <;> simp [opSrc, opEncOnly]

/-- A request that decodes and is within the instance's domain is well formed. -/
theorem wellFormed_of_decodeRequest {p : Params} {r : Request} {i : Instr} (h : decodeRequest r = .ok i)
    (ha : admits p (requestMessage p r).length = true) : r.wellFormed p = true := by
  rw [Request.wellFormed, ha]
  rcases request_cases h with ⟨m, hx, h1, h2⟩ | ⟨u, hx, h1⟩ <;>
    simp_all [Request.opDefined, Request.operandFits]

theorem State.accept_of_bytes {r : Request} {m : List Byte} (h : r.operand = .bytes m) (s : State) :
    s.accept r = { s with op := r.op, msg := m, phase := .pad } := by
  simp [State.accept, h]

theorem State.accept_of_string {r : Request} {u : List CodeUnit} (h : r.operand = .string u) (s : State) :
    s.accept r = { s with op := r.op, str := u, phase := .encode } := by
  simp [State.accept, h]

theorem State.accept_busy (r : Request) (s : State) : (s.accept r).busy = true := by
  unfold State.accept; split <;> rfl

/-- `NSTEPS` by `OP[0]` (45_sequencer.md R213). -/
theorem nSteps_opAlg (op : BitVec 3) : nSteps (opAlg op) = if op.getLsbD 0 then 48 else 64 := by
  unfold opAlg; split <;> rfl

theorem nSteps_pos (alg : Alg) : 0 < nSteps alg := by cases alg <;> decide

end Sys2Proof.Machine
end

