-- ==== Sys2Proof/Laws/Step.lean ====
section
/-! SUPPORT. What a step does, phase by phase, and what a fetched command is. -/

namespace Sys2Proof.Machine

variable {s t : State}

theorem step_of_reset (h : s.resetApplied = true) : step s = .next s.applyReset := by
  simp [step, h]

theorem step_of_instr {i : Instr} (h : s.resetApplied = false) (hf : fetch s = .instr i t) :
    step s = afterInstr s.phase (exec i t) := by
  simp [step, h, hf]

theorem step_of_internal (h : s.resetApplied = false) (hf : fetch s = .internal t) : step s = .next t := by
  simp [step, h, hf]

theorem step_of_fault {f : Fault} (h : s.resetApplied = false) (hf : fetch s = .fault f) : step s = .fault f := by
  simp [step, h, hf]

theorem step_of_refused {r : Refusal} (h : s.resetApplied = false) (hf : fetch s = .refused r) :
    step s = .refused r := by
  simp [step, h, hf]

theorem step_idle_nil (h : s.resetApplied = false) (hp : s.phase = .idle) (ho : s.offered = []) :
    step s = .next s := by
  exact step_of_internal h (by simp [fetch, hp, fetchRequest, ho])

theorem step_idle_ok {r : Request} {rest : List Request} {i : Instr} (h : s.resetApplied = false)
    (hp : s.phase = .idle) (ho : s.offered = r :: rest) (hd : decodeRequest r = .ok i) :
    step s = exec i { s with offered := rest } := by
  rw [step_of_instr h (i := i) (t := { s with offered := rest }) (by simp [fetch, hp, fetchRequest, ho, hd])]
  simp [afterInstr, hp]

theorem step_idle_error {r : Request} {rest : List Request} {e : DecodeError} (h : s.resetApplied = false)
    (hp : s.phase = .idle) (ho : s.offered = r :: rest) (hd : decodeRequest r = .error e) :
    step s = .refused (refusalOf e r) := by
  exact step_of_refused h (by simp [fetch, hp, fetchRequest, ho, hd])

theorem step_encode (h : s.resetApplied = false) (hp : s.phase = .encode) : step s = .next (encodePhase s) := by
  exact step_of_internal h (by simp [fetch, hp])

theorem step_pad (h : s.resetApplied = false) (hp : s.phase = .pad) : step s = .next (padPhase s) := by
  exact step_of_internal h (by simp [fetch, hp])

theorem step_init (h : s.resetApplied = false) (hp : s.phase = .init) : step s = .next (initPhase s) := by
  exact step_of_internal h (by simp [fetch, hp])

theorem step_load (h : s.resetApplied = false) (hp : s.phase = .load) :
    step s = if s.blk < numBlocks s.pbs then .next (loadPhase s) else .fault .noBlock := by
  split
  · next hb => exact step_of_internal h (by simp [fetch, hp, fetchLoad, hb])
  · next hb => exact step_of_fault h (by simp [fetch, hp, fetchLoad, hb])

theorem step_feed (h : s.resetApplied = false) (hp : s.phase = .feed) : step s = .next (feedPhase s) := by
  exact step_of_internal h (by simp [fetch, hp])

theorem step_out (h : s.resetApplied = false) (hp : s.phase = .out) : step s = .next (outPhase s) := by
  exact step_of_internal h (by simp [fetch, hp])

/-- In phase STEP with a row for `step`: the micro-step of the schedules, then the choice of the next phase. -/
theorem step_step (h : s.resetApplied = false) (hp : s.phase = .step) (hlt : s.stepIdx < nSteps (opAlg s.op)) :
    step s = .next (afterMicroStep (stepped (opAlg s.op) s.stepIdx s)) := by
  obtain ⟨i, hf, he⟩ := fetchStep_exec hlt
  rw [step_of_instr h (by simp only [fetch, hp]; exact hf), he, hp]
  rfl

/-- In phase STEP without a row for `step`: stuck (30_encoding.md R81). -/
theorem step_step_fault (h : s.resetApplied = false) (hp : s.phase = .step) (hge : nSteps (opAlg s.op) ≤ s.stepIdx) :
    step s = .fault .noStepRow := by
  have hf : fetchStep s = .fault .noStepRow := by
    cases hs : selector s with
    | none => simp [fetchStep, hs]
    | some sel =>
      have hd : ¬ ∃ i, decodeStep sel = .ok i := by
        rw [decodeStep_isOk_iff]
        cases ha : opAlg s.op <;> rw [ha] at hge <;> simp only [nSteps] at hge
        · simp [selector] at hs; omega
        · simp only [selector, ha] at hs
          split at hs
          · cases hs
            simp; omega
          · cases hs
      cases hd2 : decodeStep sel with
      | ok i => exact absurd ⟨i, hd2⟩ hd
      | error e => simp [fetchStep, hs, hd2]
  exact step_of_fault h (by simp only [fetch, hp]; exact hf)

/-- The response and the message of a command are those of its request (30_encoding.md R76). -/
theorem exec_of_decodeRequest {r : Request} {i : Instr} (h : decodeRequest r = .ok i) (s : State) :
    exec i s = runCommand r (requestMessage s.params r) (responseTo s.params r) s := by
  rcases decodeRequest_ok_cases h with ⟨m, rfl, rfl⟩ | ⟨m, rfl, rfl⟩ | ⟨u, rfl, rfl⟩ | ⟨u, rfl, rfl⟩ | ⟨u, rfl, rfl⟩ |
    ⟨u, rfl, rfl⟩ <;>
    simp [exec, execMd5b, execMd4b, execMd5s, execNtlm, execEnc8, execEnc16, requestMessage, responseTo, opEncOnly,
      opAlg, encodeString, md5, md4]

/-- A well-formed request decodes (R76, R80). -/
theorem decodeRequest_of_wellFormed {p : Params} {r : Request} (h : r.wellFormed p = true) :
    ∃ i, decodeRequest r = .ok i := by
  obtain ⟨op, x⟩ := r
  simp only [Request.wellFormed, Request.opDefined, Request.operandFits, Bool.and_eq_true] at h
  obtain ⟨⟨h1, h2⟩, -⟩ := h
  revert h1 h2
  have hall : ∀ op : BitVec 3, op = 0 ∨ op = 1 ∨ op = 2 ∨ op = 3 ∨ op = 4 ∨ op = 5 ∨ op = 6 ∨ op = 7 := by decide
  rcases hall op with rfl | rfl | rfl | rfl | rfl | rfl | rfl | rfl <;> cases x <;>
    simp [decodeRequest, opEncOnly, opSrc]

/-- Everything a step can do where it goes on (45_sequencer.md R213): the reset, or the one transition of the phase. -/
theorem step_next_cases (h : step s = .next t) :
    (s.resetApplied = true ∧ t = s.applyReset) ∨ (s.resetApplied = false ∧
      ((s.phase = .idle ∧ s.offered = [] ∧ t = s) ∨
      (∃ r rest i, s.phase = .idle ∧ s.offered = r :: rest ∧ decodeRequest r = .ok i ∧
        admits s.params (requestMessage s.params r).length = true ∧
        ((s.params.granularity = .operation ∧
            t = State.respond (responseTo s.params r) { s with offered := rest }) ∨
          (s.params.granularity = .phase ∧ t = State.accept r { s with offered := rest }))) ∨
      (s.phase = .encode ∧ t = encodePhase s) ∨ (s.phase = .pad ∧ t = padPhase s) ∨
      (s.phase = .init ∧ t = initPhase s) ∨ (s.phase = .load ∧ s.blk < numBlocks s.pbs ∧ t = loadPhase s) ∨
      (s.phase = .step ∧ s.stepIdx < nSteps (opAlg s.op) ∧
        t = afterMicroStep (stepped (opAlg s.op) s.stepIdx s)) ∨
      (s.phase = .feed ∧ t = feedPhase s) ∨ (s.phase = .out ∧ t = outPhase s))) := by
  rcases Bool.eq_false_or_eq_true s.resetApplied with hr | hr
  · rw [step_of_reset hr] at h; cases h; exact .inl ⟨hr, rfl⟩
  refine .inr ⟨hr, ?_⟩
  have hph : s.phase = .idle ∨ s.phase = .encode ∨ s.phase = .pad ∨ s.phase = .init ∨ s.phase = .load ∨
      s.phase = .step ∨ s.phase = .feed ∨ s.phase = .out := by cases s.phase <;> simp
  rcases hph with hp | hp | hp | hp | hp | hp | hp | hp
  · rcases ho : s.offered with _ | ⟨r, rest⟩
    · rw [step_idle_nil hr hp ho] at h; cases h; exact .inl ⟨hp, rfl, rfl⟩
    · rcases hd : decodeRequest r with e | i
      · rw [step_idle_error hr hp ho hd] at h; cases h
      · rw [step_idle_ok hr hp ho hd, exec_of_decodeRequest hd] at h
        rcases runCommand_next_cases h with ⟨hb, -⟩ | ⟨-, ha, hg, ht⟩ | ⟨-, ha, hg, ht⟩
        · exact absurd hp ((State.busy_iff _).mp hb)
        · exact .inr (.inl ⟨r, rest, i, hp, rfl, hd, ha, .inl ⟨hg, ht⟩⟩)
        · exact .inr (.inl ⟨r, rest, i, hp, rfl, hd, ha, .inr ⟨hg, ht⟩⟩)
  · rw [step_encode hr hp] at h; cases h; simp [hp]
  · rw [step_pad hr hp] at h; cases h; simp [hp]
  · rw [step_init hr hp] at h; cases h; simp [hp]
  · rw [step_load hr hp] at h
    split at h
    · next hb => cases h; simp [hp, hb]
    · cases h
  · by_cases hlt : s.stepIdx < nSteps (opAlg s.op)
    · rw [step_step hr hp hlt] at h; cases h; simp [hp, hlt]
    · rw [step_step_fault hr hp (by omega)] at h; cases h
  · rw [step_feed hr hp] at h; cases h; simp [hp]
  · rw [step_out hr hp] at h; cases h; simp [hp]

theorem execAll_cons {i : Instr} {rest : List Instr} {s t : State} (h : exec i s = .next t) :
    execAll (i :: rest) s = execAll rest t := by
  rw [execAll, h]

/-- Rows that are the steps from `n` on, run in order. -/
theorem execAll_rows (alg : Alg) (rows : List Instr) (s : State) (r : Regs) (n : Nat)
   (hr : s.regs = stepsRegs alg s.w r n)
   (hx : ∀ (j : Nat) (h : j < rows.length) (u : State), exec rows[j] u = .next (stepped alg (n+j) u)) :
   execAll rows s = .next { s with regs := stepsRegs alg s.w r (n + rows.length), stepIdx := s.stepIdx + rows.length } := by
  induction rows generalizing s n with
  | nil => rw [execAll]; congr 1; cases s; simp at *; exact hr
  | cons i rest ih =>
    rw [execAll_cons (t := stepped alg n s) (show exec i s = _ from hx 0 (by simp) s)]
    have := ih (stepped alg n s) (n+1) (by show stepRegs alg n s.w s.regs = _; rw [hr]; rfl) (fun j h u => by
      have := hx (j+1) (by simp; omega) u
      rw [show n + 1 + j = n + (j+1) by omega]; exact this)
    refine this.trans ?_
    congr 1
    simp only [stepped, List.length_cons]
    congr 1
    · congr 1; omega
    · omega

end Sys2Proof.Machine
end

