-- ==== Sys2Proof/Laws/Operation.lean ====
section
/-! SUPPORT. Running several steps, and one operation step by step: how many steps are left, and what each of them keeps. -/

namespace Sys2Proof.Machine

theorem run_next (M : Host.Core) {s t : M.State} (h : M.step s = .next t) (k : Nat) : M.run (k+1) s = M.run k t := by
  simp only [Host.Core.run, h]

theorem run_trans (M : Host.Core) {k n : Nat} {s t : M.State} (h : M.run k s = .next t) : M.run (k + n) s = M.run n t := by
  induction k generalizing s with
  | zero => cases h; rw [Nat.zero_add]
  | succ k ih =>
    rw [Nat.succ_add]
    rcases hs : M.step s with u | f | f <;> simp only [Host.Core.run, hs] at h ⊢
    · exact ih h
    · cases h
    · cases h

/-- The number of phase executions left of the running operation (45_sequencer.md R221). -/
def remaining (s : State) : Nat :=
  let n := nSteps (opAlg s.op)
  match s.phase with
  | .idle => 0
  | .encode => if opEncOnly s.op then 2 else 2 + compressSteps (opAlg s.op) s.message
  | .pad => 1 + compressSteps (opAlg s.op) s.msg
  | .init => compressSteps (opAlg s.op) s.msg
  | .load => (numBlocks s.pbs - s.blk) * (n + 2) + 1
  | .step => (n - s.stepIdx) + 1 + (numBlocks s.pbs - s.blk - 1) * (n + 2) + 1
  | .feed => 1 + (numBlocks s.pbs - s.blk - 1) * (n + 2) + 1
  | .out => 1

theorem State.message_of_encode {s : State} (h : s.phase = .encode) :
    s.message = encodeString s.params.loneSurr (opAlg s.op) s.str := if_pos h
theorem State.message_of_ne {s : State} (h : s.phase ≠ .encode) : s.message = s.msg := if_neg h

theorem sub_mul_step {a b c : Nat} (h : b < a) : (a - b) * c = c + (a - b - 1) * c := by
  obtain ⟨d, rfl⟩ : ∃ d, a = b + 1 + d := ⟨a - b - 1, by omega⟩
  rw [show b + 1 + d - b = d + 1 by omega, show d + 1 - 1 = d by omega, Nat.succ_mul, Nat.add_comm]

/-- Everything a step of a running operation can do under the invariant: it goes on, one phase execution nearer to its end, with its
message, or it ends with its response. -/
theorem busy_step_cases {s t : State} (hi : SequencerInv s) (hr : s.resetApplied = false) (hb : s.busy = true) (h : step s = .next t) :
    (t.busy = true ∧ remaining t + 1 = remaining s ∧ t.message = s.message ∧ t.op = s.op ∧ t.params = s.params ∧ t.offered = s.offered ∧ t.delivered = s.delivered ∧ t.resetApplied = false) ∨
    (remaining s = 1 ∧ t = s.respond s.expected) := by
  have hne := (State.busy_iff s).mp hb
  rcases step_next_cases h with ⟨h1, rfl⟩ | ⟨-, h⟩
  · rw [hr] at h1; cases h1
  rcases h with ⟨hp, -⟩ | ⟨r, rest, i, hp, -⟩ | ⟨hp, rfl⟩ | ⟨hp, rfl⟩ | ⟨hp, rfl⟩ | ⟨hp, hlt, rfl⟩ | ⟨hp, hlt, rfl⟩ | ⟨hp, rfl⟩ | ⟨hp, rfl⟩
  · exact absurd hp hne
  · exact absurd hp hne
  · left
    cases he : opEncOnly s.op
    · rw [encodePhase_of_digest he]
      refine ⟨rfl, ?_, ?_, rfl, rfl, rfl, rfl, hr⟩
      · simp only [remaining, hp, he, State.message_of_encode hp]; simp; omega
      · rw [State.message_of_encode hp]; rfl
    · rw [encodePhase_of_encOnly he]
      refine ⟨rfl, ?_, ?_, rfl, rfl, rfl, rfl, hr⟩
      · simp only [remaining, hp, he]; simp
      · rw [State.message_of_encode hp]; rfl
  · left
    refine ⟨rfl, ?_, ?_, rfl, rfl, rfl, rfl, hr⟩
    · simp only [remaining, hp, padPhase]; omega
    · exact (show _ = s.msg from rfl).trans (State.message_of_ne (by rw [hp]; simp)).symm
  · left
    simp only [SequencerInv, hp] at hi
    refine ⟨rfl, ?_, ?_, rfl, rfl, rfl, rfl, hr⟩
    · simp only [remaining, hp, initPhase, compressSteps, hi.2.2.2, Nat.sub_zero]; omega
    · exact (show _ = s.msg from rfl).trans (State.message_of_ne (by rw [hp]; simp)).symm
  · left
    refine ⟨rfl, ?_, ?_, rfl, rfl, rfl, rfl, hr⟩
    · simp only [remaining, hp, loadPhase, sub_mul_step hlt]; omega
    · exact (show _ = s.msg from rfl).trans (State.message_of_ne (by rw [hp]; simp)).symm
  · left
    have hph := afterMicroStep_stepped_phase (opAlg s.op) s.stepIdx s
    have hm : s.message = s.msg := State.message_of_ne (by rw [hp]; simp)
    by_cases hn : s.stepIdx + 1 = nSteps (opAlg s.op)
    · rw [if_pos hn] at hph
      refine ⟨(State.busy_iff _).mpr (by rw [hph]; simp), ?_, ?_, rfl, rfl, rfl, rfl, hr⟩
      · simp only [remaining, hp, hph]
        show 1 + (numBlocks s.pbs - s.blk - 1) * (nSteps (opAlg s.op) + 2) + 1 + 1 = nSteps (opAlg s.op) - s.stepIdx + 1 + (numBlocks s.pbs - s.blk - 1) * (nSteps (opAlg s.op) + 2) + 1
        omega
      · rw [hm, State.message_of_ne (by rw [hph]; simp)]; rfl
    · rw [if_neg hn] at hph
      refine ⟨(State.busy_iff _).mpr (by rw [hph]; simp), ?_, ?_, rfl, rfl, rfl, rfl, hr⟩
      · simp only [remaining, hp, hph]
        show nSteps (opAlg s.op) - (s.stepIdx + 1) + 1 + (numBlocks s.pbs - s.blk - 1) * (nSteps (opAlg s.op) + 2) + 1 + 1 = nSteps (opAlg s.op) - s.stepIdx + 1 + (numBlocks s.pbs - s.blk - 1) * (nSteps (opAlg s.op) + 2) + 1
        omega
      · rw [hm, State.message_of_ne (by rw [hph]; simp)]; rfl
  · left
    have hph := feedPhase_phase s
    have hm : s.message = s.msg := State.message_of_ne (by rw [hp]; simp)
    simp only [SequencerInv, hp] at hi
    have hlt := hi.1.2.1
    by_cases hn : s.blk + 1 = numBlocks s.pbs
    · rw [if_pos hn] at hph
      refine ⟨(State.busy_iff _).mpr (by rw [hph]; simp), ?_, ?_, rfl, rfl, rfl, rfl, hr⟩
      · simp only [remaining, hp, hph]
        rw [show numBlocks s.pbs - s.blk - 1 = 0 by omega]; omega
      · rw [hm, State.message_of_ne (by rw [hph]; simp)]; rfl
    · rw [if_neg hn] at hph
      refine ⟨(State.busy_iff _).mpr (by rw [hph]; simp), ?_, ?_, rfl, rfl, rfl, rfl, hr⟩
      · simp only [remaining, hp, hph]
        show (numBlocks s.pbs - (s.blk + 1)) * (nSteps (opAlg s.op) + 2) + 1 + 1 = 1 + (numBlocks s.pbs - s.blk - 1) * (nSteps (opAlg s.op) + 2) + 1
        rw [Nat.sub_sub]; omega
      · rw [hm, State.message_of_ne (by rw [hph]; simp)]; rfl
  · right
    have hm : s.message = s.msg := State.message_of_ne (by rw [hp]; simp)
    refine ⟨by simp only [remaining, hp], ?_⟩
    simp only [SequencerInv, hp] at hi
    cases he : opEncOnly s.op
    · rw [if_neg (by rw [he]; decide)] at hi
      rw [outPhase_of_digest he, State.expected, he, if_neg (by decide), hi.2.2, hm, hi.1.2.2.2, hi.2.1, hi.1.2.2.2]; rfl
    · rw [outPhase_of_encOnly he, State.expected, he, if_pos rfl, hm]

/-- The acceptance of a well-formed request, phase by phase (45_sequencer.md R212). -/
theorem accept_step {s : State} {r : Request} (h : Ready s) (hw : r.wellFormed s.params = true) (hg : s.params.granularity = .phase) {rest : List Request} (ho : s.offered = r :: rest) :
    ∃ t, step s = .next t ∧ SequencerInv t ∧ t.resetApplied = false ∧ t.busy = true ∧ t.offered = rest ∧ t.delivered = s.delivered ∧ t.params = s.params ∧
     t.expected = responseTo s.params r ∧ remaining t = opSteps s.params r := by
  obtain ⟨i, hd⟩ := decodeRequest_of_wellFormed hw
  have ha : admits s.params (requestMessage s.params r).length = true := by
    simp only [Request.wellFormed, Bool.and_eq_true] at hw; exact hw.2
  have hst := (step_idle_ok h.2 h.1 ho hd).trans ((exec_of_decodeRequest hd _).trans (runCommand_accepted ((State.not_busy_iff _).mpr h.1) ha hg))
  refine ⟨_, hst, ?_⟩
  rcases request_cases hd with ⟨m, hx, h1, h2⟩ | ⟨u, hx, h1⟩
  · rw [State.accept_of_bytes hx]
    have hm : requestMessage s.params r = m := by rw [requestMessage, hx]
    rw [hm] at ha
    refine ⟨⟨h2, fun h3 => absurd (h3.symm.trans h1) (by decide), ha⟩, h.2, rfl, rfl, rfl, rfl, ?_, ?_⟩
    · rw [responseTo, hm, State.expected, State.message_of_ne (by simp)]
    · rw [opSteps, hm, h1, h2]; simp [remaining]
  · rw [State.accept_of_string hx]
    have hm : requestMessage s.params r = encodeString s.params.loneSurr (opAlg r.op) u := by rw [requestMessage, hx]
    rw [hm] at ha
    refine ⟨⟨h1, ha⟩, h.2, rfl, rfl, rfl, rfl, ?_, ?_⟩
    · rw [responseTo, hm, State.expected, State.message_of_encode rfl]
    · rw [opSteps, hm, h1]; simp only [remaining, State.message_of_encode]; cases opEncOnly r.op <;> simp; omega

end Sys2Proof.Machine
end

