-- ==== Sys2Proof/Laws/Output.lean ====
section
/-! SUPPORT. The hex rendering character by character. -/

namespace Sys2Proof.Machine

theorem hexDigit_toNat (v : BitVec 4) : (hexDigit v).toNat = if v.toNat < 10 then 0x30 + v.toNat else 0x61 + (v.toNat - 10) := by
  revert v; decide

theorem hexDigit_injective : ∀ v w : BitVec 4, hexDigit v = hexDigit w → v = w := by decide

theorem hexOf_even (dig : Vector Byte 16) (i : Nat) (h : i < 16) : (hexOf dig)[2*i] = hexDigit (dig[i].extractLsb' 4 4) := by
  simp [hexOf]

theorem hexOf_odd (dig : Vector Byte 16) (i : Nat) (h : i < 16) : (hexOf dig)[2*i+1] = hexDigit (dig[i].extractLsb' 0 4) := by
  simp only [hexOf, Vector.getElem_ofFn]
  rw [if_neg (by omega)]
  simp [show (2*i+1)/2 = i by omega]

end Sys2Proof.Machine
end

