-- ==== Sys2Proof/Laws/PerInstr.lean ====
section
/-! SUPPORT. Statements for all instructions, one lemma per constructor. -/

namespace Sys2Proof.Laws

/-- Of an instance with unbounded messages (00_scope.md R6) the instruction is well formed, and its code is read back as it (30_encoding.md
R76, R77). -/
def EncodedForm.Statement (i : Instr) : Prop :=
  (∀ p : Params, p.maxMsgBytes = none → i.wellFormed p = true) ∧ decode (encode i) = .ok i

/-- A command of an instance with unbounded messages. -/
theorem EncodedForm.of_command {i : Instr} {r : Request} (h : encode i = .cmd r) (hr : decodeRequest r = .ok i) :
    EncodedForm.Statement i := by
  refine ⟨fun p hp => ?_, by rw [h]; exact hr⟩
  rw [Instr.wellFormed, h]
  exact Machine.wellFormed_of_decodeRequest hr (by rw [Machine.admits, hp])

/-- A micro-step. -/
theorem EncodedForm.of_step {i : Instr} {sel : BitVec 7} (h : encode i = .ustep sel) (hd : decodeStep sel = .ok i)
    (hs : stepDefined sel = true) : EncodedForm.Statement i :=
  ⟨fun p _ => by rw [Instr.wellFormed, h]; exact hs, by rw [h]; exact hd⟩

theorem EncodedForm.md5b (m : List Byte) : EncodedForm.Statement (.md5b m) := EncodedForm.of_command rfl rfl
theorem EncodedForm.md4b (m : List Byte) : EncodedForm.Statement (.md4b m) := EncodedForm.of_command rfl rfl
theorem EncodedForm.md5s (u : List CodeUnit) : EncodedForm.Statement (.md5s u) := EncodedForm.of_command rfl rfl
theorem EncodedForm.ntlm (u : List CodeUnit) : EncodedForm.Statement (.ntlm u) := EncodedForm.of_command rfl rfl
theorem EncodedForm.enc8 (u : List CodeUnit) : EncodedForm.Statement (.enc8 u) := EncodedForm.of_command rfl rfl
theorem EncodedForm.enc16 (u : List CodeUnit) : EncodedForm.Statement (.enc16 u) := EncodedForm.of_command rfl rfl
theorem EncodedForm.md5Step0 : EncodedForm.Statement .md5Step0 := EncodedForm.of_step rfl rfl rfl
theorem EncodedForm.md5Step1 : EncodedForm.Statement .md5Step1 := EncodedForm.of_step rfl rfl rfl
theorem EncodedForm.md5Step2 : EncodedForm.Statement .md5Step2 := EncodedForm.of_step rfl rfl rfl
theorem EncodedForm.md5Step3 : EncodedForm.Statement .md5Step3 := EncodedForm.of_step rfl rfl rfl
theorem EncodedForm.md5Step4 : EncodedForm.Statement .md5Step4 := EncodedForm.of_step rfl rfl rfl
theorem EncodedForm.md5Step5 : EncodedForm.Statement .md5Step5 := EncodedForm.of_step rfl rfl rfl
theorem EncodedForm.md5Step6 : EncodedForm.Statement .md5Step6 := EncodedForm.of_step rfl rfl rfl
theorem EncodedForm.md5Step7 : EncodedForm.Statement .md5Step7 := EncodedForm.of_step rfl rfl rfl
theorem EncodedForm.md5Step8 : EncodedForm.Statement .md5Step8 := EncodedForm.of_step rfl rfl rfl
theorem EncodedForm.md5Step9 : EncodedForm.Statement .md5Step9 := EncodedForm.of_step rfl rfl rfl
theorem EncodedForm.md5Step10 : EncodedForm.Statement .md5Step10 := EncodedForm.of_step rfl rfl rfl
theorem EncodedForm.md5Step11 : EncodedForm.Statement .md5Step11 := EncodedForm.of_step rfl rfl rfl
theorem EncodedForm.md5Step12 : EncodedForm.Statement .md5Step12 := EncodedForm.of_step rfl rfl rfl
theorem EncodedForm.md5Step13 : EncodedForm.Statement .md5Step13 := EncodedForm.of_step rfl rfl rfl
theorem EncodedForm.md5Step14 : EncodedForm.Statement .md5Step14 := EncodedForm.of_step rfl rfl rfl
theorem EncodedForm.md5Step15 : EncodedForm.Statement .md5Step15 := EncodedForm.of_step rfl rfl rfl
theorem EncodedForm.md5Step16 : EncodedForm.Statement .md5Step16 := EncodedForm.of_step rfl rfl rfl
theorem EncodedForm.md5Step17 : EncodedForm.Statement .md5Step17 := EncodedForm.of_step rfl rfl rfl
theorem EncodedForm.md5Step18 : EncodedForm.Statement .md5Step18 := EncodedForm.of_step rfl rfl rfl
theorem EncodedForm.md5Step19 : EncodedForm.Statement .md5Step19 := EncodedForm.of_step rfl rfl rfl
theorem EncodedForm.md5Step20 : EncodedForm.Statement .md5Step20 := EncodedForm.of_step rfl rfl rfl
theorem EncodedForm.md5Step21 : EncodedForm.Statement .md5Step21 := EncodedForm.of_step rfl rfl rfl
theorem EncodedForm.md5Step22 : EncodedForm.Statement .md5Step22 := EncodedForm.of_step rfl rfl rfl
theorem EncodedForm.md5Step23 : EncodedForm.Statement .md5Step23 := EncodedForm.of_step rfl rfl rfl
theorem EncodedForm.md5Step24 : EncodedForm.Statement .md5Step24 := EncodedForm.of_step rfl rfl rfl
theorem EncodedForm.md5Step25 : EncodedForm.Statement .md5Step25 := EncodedForm.of_step rfl rfl rfl
theorem EncodedForm.md5Step26 : EncodedForm.Statement .md5Step26 := EncodedForm.of_step rfl rfl rfl
theorem EncodedForm.md5Step27 : EncodedForm.Statement .md5Step27 := EncodedForm.of_step rfl rfl rfl
theorem EncodedForm.md5Step28 : EncodedForm.Statement .md5Step28 := EncodedForm.of_step rfl rfl rfl
theorem EncodedForm.md5Step29 : EncodedForm.Statement .md5Step29 := EncodedForm.of_step rfl rfl rfl
theorem EncodedForm.md5Step30 : EncodedForm.Statement .md5Step30 := EncodedForm.of_step rfl rfl rfl
theorem EncodedForm.md5Step31 : EncodedForm.Statement .md5Step31 := EncodedForm.of_step rfl rfl rfl
theorem EncodedForm.md5Step32 : EncodedForm.Statement .md5Step32 := EncodedForm.of_step rfl rfl rfl
theorem EncodedForm.md5Step33 : EncodedForm.Statement .md5Step33 := EncodedForm.of_step rfl rfl rfl
theorem EncodedForm.md5Step34 : EncodedForm.Statement .md5Step34 := EncodedForm.of_step rfl rfl rfl
theorem EncodedForm.md5Step35 : EncodedForm.Statement .md5Step35 := EncodedForm.of_step rfl rfl rfl
theorem EncodedForm.md5Step36 : EncodedForm.Statement .md5Step36 := EncodedForm.of_step rfl rfl rfl
theorem EncodedForm.md5Step37 : EncodedForm.Statement .md5Step37 := EncodedForm.of_step rfl rfl rfl
theorem EncodedForm.md5Step38 : EncodedForm.Statement .md5Step38 := EncodedForm.of_step rfl rfl rfl
theorem EncodedForm.md5Step39 : EncodedForm.Statement .md5Step39 := EncodedForm.of_step rfl rfl rfl
theorem EncodedForm.md5Step40 : EncodedForm.Statement .md5Step40 := EncodedForm.of_step rfl rfl rfl
theorem EncodedForm.md5Step41 : EncodedForm.Statement .md5Step41 := EncodedForm.of_step rfl rfl rfl
theorem EncodedForm.md5Step42 : EncodedForm.Statement .md5Step42 := EncodedForm.of_step rfl rfl rfl
theorem EncodedForm.md5Step43 : EncodedForm.Statement .md5Step43 := EncodedForm.of_step rfl rfl rfl
theorem EncodedForm.md5Step44 : EncodedForm.Statement .md5Step44 := EncodedForm.of_step rfl rfl rfl
theorem EncodedForm.md5Step45 : EncodedForm.Statement .md5Step45 := EncodedForm.of_step rfl rfl rfl
theorem EncodedForm.md5Step46 : EncodedForm.Statement .md5Step46 := EncodedForm.of_step rfl rfl rfl
theorem EncodedForm.md5Step47 : EncodedForm.Statement .md5Step47 := EncodedForm.of_step rfl rfl rfl
theorem EncodedForm.md5Step48 : EncodedForm.Statement .md5Step48 := EncodedForm.of_step rfl rfl rfl
theorem EncodedForm.md5Step49 : EncodedForm.Statement .md5Step49 := EncodedForm.of_step rfl rfl rfl
theorem EncodedForm.md5Step50 : EncodedForm.Statement .md5Step50 := EncodedForm.of_step rfl rfl rfl
theorem EncodedForm.md5Step51 : EncodedForm.Statement .md5Step51 := EncodedForm.of_step rfl rfl rfl
theorem EncodedForm.md5Step52 : EncodedForm.Statement .md5Step52 := EncodedForm.of_step rfl rfl rfl
theorem EncodedForm.md5Step53 : EncodedForm.Statement .md5Step53 := EncodedForm.of_step rfl rfl rfl
theorem EncodedForm.md5Step54 : EncodedForm.Statement .md5Step54 := EncodedForm.of_step rfl rfl rfl
theorem EncodedForm.md5Step55 : EncodedForm.Statement .md5Step55 := EncodedForm.of_step rfl rfl rfl
theorem EncodedForm.md5Step56 : EncodedForm.Statement .md5Step56 := EncodedForm.of_step rfl rfl rfl
theorem EncodedForm.md5Step57 : EncodedForm.Statement .md5Step57 := EncodedForm.of_step rfl rfl rfl
theorem EncodedForm.md5Step58 : EncodedForm.Statement .md5Step58 := EncodedForm.of_step rfl rfl rfl
theorem EncodedForm.md5Step59 : EncodedForm.Statement .md5Step59 := EncodedForm.of_step rfl rfl rfl
theorem EncodedForm.md5Step60 : EncodedForm.Statement .md5Step60 := EncodedForm.of_step rfl rfl rfl
theorem EncodedForm.md5Step61 : EncodedForm.Statement .md5Step61 := EncodedForm.of_step rfl rfl rfl
theorem EncodedForm.md5Step62 : EncodedForm.Statement .md5Step62 := EncodedForm.of_step rfl rfl rfl
theorem EncodedForm.md5Step63 : EncodedForm.Statement .md5Step63 := EncodedForm.of_step rfl rfl rfl
theorem EncodedForm.md4Step0 : EncodedForm.Statement .md4Step0 := EncodedForm.of_step rfl rfl rfl
theorem EncodedForm.md4Step1 : EncodedForm.Statement .md4Step1 := EncodedForm.of_step rfl rfl rfl
theorem EncodedForm.md4Step2 : EncodedForm.Statement .md4Step2 := EncodedForm.of_step rfl rfl rfl
theorem EncodedForm.md4Step3 : EncodedForm.Statement .md4Step3 := EncodedForm.of_step rfl rfl rfl
theorem EncodedForm.md4Step4 : EncodedForm.Statement .md4Step4 := EncodedForm.of_step rfl rfl rfl
theorem EncodedForm.md4Step5 : EncodedForm.Statement .md4Step5 := EncodedForm.of_step rfl rfl rfl
theorem EncodedForm.md4Step6 : EncodedForm.Statement .md4Step6 := EncodedForm.of_step rfl rfl rfl
theorem EncodedForm.md4Step7 : EncodedForm.Statement .md4Step7 := EncodedForm.of_step rfl rfl rfl
theorem EncodedForm.md4Step8 : EncodedForm.Statement .md4Step8 := EncodedForm.of_step rfl rfl rfl
theorem EncodedForm.md4Step9 : EncodedForm.Statement .md4Step9 := EncodedForm.of_step rfl rfl rfl
theorem EncodedForm.md4Step10 : EncodedForm.Statement .md4Step10 := EncodedForm.of_step rfl rfl rfl
theorem EncodedForm.md4Step11 : EncodedForm.Statement .md4Step11 := EncodedForm.of_step rfl rfl rfl
theorem EncodedForm.md4Step12 : EncodedForm.Statement .md4Step12 := EncodedForm.of_step rfl rfl rfl
theorem EncodedForm.md4Step13 : EncodedForm.Statement .md4Step13 := EncodedForm.of_step rfl rfl rfl
theorem EncodedForm.md4Step14 : EncodedForm.Statement .md4Step14 := EncodedForm.of_step rfl rfl rfl
theorem EncodedForm.md4Step15 : EncodedForm.Statement .md4Step15 := EncodedForm.of_step rfl rfl rfl
theorem EncodedForm.md4Step16 : EncodedForm.Statement .md4Step16 := EncodedForm.of_step rfl rfl rfl
theorem EncodedForm.md4Step17 : EncodedForm.Statement .md4Step17 := EncodedForm.of_step rfl rfl rfl
theorem EncodedForm.md4Step18 : EncodedForm.Statement .md4Step18 := EncodedForm.of_step rfl rfl rfl
theorem EncodedForm.md4Step19 : EncodedForm.Statement .md4Step19 := EncodedForm.of_step rfl rfl rfl
theorem EncodedForm.md4Step20 : EncodedForm.Statement .md4Step20 := EncodedForm.of_step rfl rfl rfl
theorem EncodedForm.md4Step21 : EncodedForm.Statement .md4Step21 := EncodedForm.of_step rfl rfl rfl
theorem EncodedForm.md4Step22 : EncodedForm.Statement .md4Step22 := EncodedForm.of_step rfl rfl rfl
theorem EncodedForm.md4Step23 : EncodedForm.Statement .md4Step23 := EncodedForm.of_step rfl rfl rfl
theorem EncodedForm.md4Step24 : EncodedForm.Statement .md4Step24 := EncodedForm.of_step rfl rfl rfl
theorem EncodedForm.md4Step25 : EncodedForm.Statement .md4Step25 := EncodedForm.of_step rfl rfl rfl
theorem EncodedForm.md4Step26 : EncodedForm.Statement .md4Step26 := EncodedForm.of_step rfl rfl rfl
theorem EncodedForm.md4Step27 : EncodedForm.Statement .md4Step27 := EncodedForm.of_step rfl rfl rfl
theorem EncodedForm.md4Step28 : EncodedForm.Statement .md4Step28 := EncodedForm.of_step rfl rfl rfl
theorem EncodedForm.md4Step29 : EncodedForm.Statement .md4Step29 := EncodedForm.of_step rfl rfl rfl
theorem EncodedForm.md4Step30 : EncodedForm.Statement .md4Step30 := EncodedForm.of_step rfl rfl rfl
theorem EncodedForm.md4Step31 : EncodedForm.Statement .md4Step31 := EncodedForm.of_step rfl rfl rfl
theorem EncodedForm.md4Step32 : EncodedForm.Statement .md4Step32 := EncodedForm.of_step rfl rfl rfl
theorem EncodedForm.md4Step33 : EncodedForm.Statement .md4Step33 := EncodedForm.of_step rfl rfl rfl
theorem EncodedForm.md4Step34 : EncodedForm.Statement .md4Step34 := EncodedForm.of_step rfl rfl rfl
theorem EncodedForm.md4Step35 : EncodedForm.Statement .md4Step35 := EncodedForm.of_step rfl rfl rfl
theorem EncodedForm.md4Step36 : EncodedForm.Statement .md4Step36 := EncodedForm.of_step rfl rfl rfl
theorem EncodedForm.md4Step37 : EncodedForm.Statement .md4Step37 := EncodedForm.of_step rfl rfl rfl
theorem EncodedForm.md4Step38 : EncodedForm.Statement .md4Step38 := EncodedForm.of_step rfl rfl rfl
theorem EncodedForm.md4Step39 : EncodedForm.Statement .md4Step39 := EncodedForm.of_step rfl rfl rfl
theorem EncodedForm.md4Step40 : EncodedForm.Statement .md4Step40 := EncodedForm.of_step rfl rfl rfl
theorem EncodedForm.md4Step41 : EncodedForm.Statement .md4Step41 := EncodedForm.of_step rfl rfl rfl
theorem EncodedForm.md4Step42 : EncodedForm.Statement .md4Step42 := EncodedForm.of_step rfl rfl rfl
theorem EncodedForm.md4Step43 : EncodedForm.Statement .md4Step43 := EncodedForm.of_step rfl rfl rfl
theorem EncodedForm.md4Step44 : EncodedForm.Statement .md4Step44 := EncodedForm.of_step rfl rfl rfl
theorem EncodedForm.md4Step45 : EncodedForm.Statement .md4Step45 := EncodedForm.of_step rfl rfl rfl
theorem EncodedForm.md4Step46 : EncodedForm.Statement .md4Step46 := EncodedForm.of_step rfl rfl rfl
theorem EncodedForm.md4Step47 : EncodedForm.Statement .md4Step47 := EncodedForm.of_step rfl rfl rfl

end Sys2Proof.Laws
end

