-- ==== Sys2Proof/Laws/System.lean ====
section
/-! SUPPORT. Several instances side by side: what a schedule does to one place, and how an instance's own steps compose. -/

namespace Sys2Proof.Machine

/-- The instance at a place takes as many of its own steps as the schedule has entries for the place. -/
theorem System.run_getElem? (sys : System) (sched : List Nat) (n : Nat) :
    (sys.run sched)[n]? = sys[n]?.map fun s => s.advances (sched.count n) := by
  induction sched generalizing sys with
  | nil => cases h : sys[n]? <;> simp [System.run, h, State.advances]
  | cons k rest ih =>
    rw [System.run, ih, List.getElem?_modify]
    by_cases hk : k = n
    · subst hk; cases h : sys[k]? <;> simp [State.advances]
    · cases h : sys[n]? <;> simp [hk]

/-- The steps of an instance within a system are those it takes on its own, where each of them goes on. -/
theorem State.advances_of_run {s t : State} {k : Nat} (h : Host.Core.run core k s = .next t) :
    s.advances k = t := by
  induction k generalizing s with
  | zero => cases h; rfl
  | succ k ih =>
    rcases hs : step s with u | f | f
    · rw [run_next core hs] at h
      rw [State.advances, show s.advance = u by rw [State.advance, hs]]
      exact ih h
    · simp only [Host.Core.run, show core.step s = _ from hs] at h
      cases h
    · simp only [Host.Core.run, show core.step s = _ from hs] at h
      cases h

theorem State.advances_add (s : State) (a b : Nat) : s.advances (a + b) = (s.advances a).advances b := by
  induction a generalizing s with
  | zero => rw [Nat.zero_add]; rfl
  | succ a ih => rw [Nat.succ_add, State.advances, ih]; rfl

/-- An idle instance with nothing offered stays as it is (60_exceptions.md R239). -/
theorem State.advances_of_ready {s : State} (h : Ready s) (ho : s.offered = []) (n : Nat) : s.advances n = s := by
  induction n with
  | zero => rfl
  | succ n ih => rw [State.advances, State.advance, step_idle_nil h.2 h.1 ho]; exact ih

end Sys2Proof.Machine
end

