-- ==== Sys2Proof/Tests/Slice0.lean ====
section
/-! SUPPORT. Tests. Expected values are the spec's own: the encodings of 30_encoding.md, the vectors and traces of 95_test_vectors.md.
The second half shows, for each obligation with hypotheses, values that meet them together. -/

open Sys2Proof
open Sys2Proof.Machine

namespace Sys2Proof.Tests

/-- An idle instance. -/
def idle (g : Granularity) (p : LoneSurr) (bound : Option Nat) : State :=
  { State.reset with params := ⟨bound, p, g⟩ }

/-- An idle instance to which `r` is offered. -/
def offered (g : Granularity) (r : Request) : State :=
  { idle g .threeByte none with offered := [r] }

/-- An instance that has accepted `r`. -/
def accepted (r : Request) : State := (idle .phase .threeByte none).accept r

/-- The bytes of the digest that an outcome delivers first. -/
def digestOut (o : Host.Outcome State Fault Refusal) : Option (List Byte) :=
  match o with
  | .next s =>
    match s.delivered with
    | [.digest b _] => some b.toList
    | _ => none
  | _ => none

/-- The bytes of the encoder output that an outcome delivers first. -/
def encodedOut (o : Host.Outcome State Fault Refusal) : Option (List Byte) :=
  match o with
  | .next s =>
    match s.delivered with
    | [.encoded b] => some b
    | _ => none
  | _ => none

/-- The refusal of an outcome. -/
def refusalOut (o : Host.Outcome State Fault Refusal) : Option Refusal :=
  match o with
  | .refused r => some r
  | _ => none

/-! ### Well-formedness: an ill-formed term for each check -/

theorem test_wf_reserved_100 : (Code.cmd ⟨0b100#3, .bytes [0x61]⟩).wellFormed ⟨none, .threeByte, .phase⟩ = false := by decide
theorem test_wf_reserved_101 : (Code.cmd ⟨0b101#3, .string [0x61]⟩).wellFormed ⟨none, .threeByte, .phase⟩ = false := by decide
theorem test_wf_string_for_bytes : (Code.cmd ⟨0b000#3, .string [0x61]⟩).wellFormed ⟨none, .threeByte, .phase⟩ = false := by
  decide
theorem test_wf_bytes_for_string : (Code.cmd ⟨0b011#3, .bytes [0x61]⟩).wellFormed ⟨none, .threeByte, .phase⟩ = false := by
  decide
theorem test_wf_selector_70 : (Code.ustep 0x70#7).wellFormed ⟨none, .threeByte, .phase⟩ = false := by decide
theorem test_wf_selector_7f : (Code.ustep 0x7f#7).wellFormed ⟨none, .threeByte, .phase⟩ = false := by decide
theorem test_wf_too_long_bytes : (Instr.md5b [0x61, 0x62]).wellFormed ⟨some 1, .threeByte, .phase⟩ = false := by decide
theorem test_wf_too_long_string : (Instr.ntlm [0x61]).wellFormed ⟨some 1, .threeByte, .phase⟩ = false := by decide
theorem test_wf_too_long_utf8 : (Instr.enc8 [0x20ac]).wellFormed ⟨some 2, .threeByte, .phase⟩ = false := by decide
theorem test_wf_at_the_bound : (Instr.enc8 [0x20ac]).wellFormed ⟨some 3, .threeByte, .phase⟩ = true := by decide

/-! ### Decoding: words written out from R71, R74, R76 and R77 -/

theorem test_decode_commands :
    decode (.cmd ⟨0b000#3, .bytes [0x61]⟩) = .ok (.md5b [0x61]) ∧ decode (.cmd ⟨0b001#3, .bytes [0x61]⟩) = .ok (.md4b [0x61]) ∧
    decode (.cmd ⟨0b010#3, .string [0xe9]⟩) = .ok (.md5s [0xe9]) ∧ decode (.cmd ⟨0b011#3, .string [0xe9]⟩) = .ok (.ntlm [0xe9]) ∧
    decode (.cmd ⟨0b110#3, .string [0xe9]⟩) = .ok (.enc8 [0xe9]) ∧
    decode (.cmd ⟨0b111#3, .string [0xe9]⟩) = .ok (.enc16 [0xe9]) := by decide

theorem test_decode_reserved :
    decode (.cmd ⟨0b100#3, .bytes []⟩) = .error (.reservedCommand 0b100#3) ∧
    decode (.cmd ⟨0b101#3, .string []⟩) = .error (.reservedCommand 0b101#3) ∧
    decode (.cmd ⟨0b000#3, .string []⟩) = .error (.operandType 0b000#3) ∧
    decode (.cmd ⟨0b110#3, .bytes []⟩) = .error (.operandType 0b110#3) ∧
    decode (.ustep 0b1110000#7) = .error (.noStepRow 0b1110000#7) ∧
    decode (.ustep 0b1111111#7) = .error (.noStepRow 0b1111111#7) := by decide

theorem test_decode_md5_round1 :
    [0b0000000#7, 0b0000001#7, 0b0000010#7, 0b0000011#7, 0b0000100#7, 0b0000101#7, 0b0000110#7, 0b0000111#7,
     0b0001000#7, 0b0001001#7, 0b0001010#7, 0b0001011#7, 0b0001100#7, 0b0001101#7, 0b0001110#7, 0b0001111#7].map (fun sel => decode (.ustep sel)) =
    [.ok .md5Step0, .ok .md5Step1, .ok .md5Step2, .ok .md5Step3,
     .ok .md5Step4, .ok .md5Step5, .ok .md5Step6, .ok .md5Step7,
     .ok .md5Step8, .ok .md5Step9, .ok .md5Step10, .ok .md5Step11,
     .ok .md5Step12, .ok .md5Step13, .ok .md5Step14, .ok .md5Step15] := by decide +kernel

theorem test_decode_md5_round2 :
    [0b0010000#7, 0b0010001#7, 0b0010010#7, 0b0010011#7, 0b0010100#7, 0b0010101#7, 0b0010110#7, 0b0010111#7,
     0b0011000#7, 0b0011001#7, 0b0011010#7, 0b0011011#7, 0b0011100#7, 0b0011101#7, 0b0011110#7, 0b0011111#7].map (fun sel => decode (.ustep sel)) =
    [.ok .md5Step16, .ok .md5Step17, .ok .md5Step18, .ok .md5Step19,
     .ok .md5Step20, .ok .md5Step21, .ok .md5Step22, .ok .md5Step23,
     .ok .md5Step24, .ok .md5Step25, .ok .md5Step26, .ok .md5Step27,
     .ok .md5Step28, .ok .md5Step29, .ok .md5Step30, .ok .md5Step31] := by decide +kernel

theorem test_decode_md5_round3 :
    [0b0100000#7, 0b0100001#7, 0b0100010#7, 0b0100011#7, 0b0100100#7, 0b0100101#7, 0b0100110#7, 0b0100111#7,
     0b0101000#7, 0b0101001#7, 0b0101010#7, 0b0101011#7, 0b0101100#7, 0b0101101#7, 0b0101110#7, 0b0101111#7].map (fun sel => decode (.ustep sel)) =
    [.ok .md5Step32, .ok .md5Step33, .ok .md5Step34, .ok .md5Step35,
     .ok .md5Step36, .ok .md5Step37, .ok .md5Step38, .ok .md5Step39,
     .ok .md5Step40, .ok .md5Step41, .ok .md5Step42, .ok .md5Step43,
     .ok .md5Step44, .ok .md5Step45, .ok .md5Step46, .ok .md5Step47] := by decide +kernel

theorem test_decode_md5_round4 :
    [0b0110000#7, 0b0110001#7, 0b0110010#7, 0b0110011#7, 0b0110100#7, 0b0110101#7, 0b0110110#7, 0b0110111#7,
     0b0111000#7, 0b0111001#7, 0b0111010#7, 0b0111011#7, 0b0111100#7, 0b0111101#7, 0b0111110#7, 0b0111111#7].map (fun sel => decode (.ustep sel)) =
    [.ok .md5Step48, .ok .md5Step49, .ok .md5Step50, .ok .md5Step51,
     .ok .md5Step52, .ok .md5Step53, .ok .md5Step54, .ok .md5Step55,
     .ok .md5Step56, .ok .md5Step57, .ok .md5Step58, .ok .md5Step59,
     .ok .md5Step60, .ok .md5Step61, .ok .md5Step62, .ok .md5Step63] := by decide +kernel

theorem test_decode_md4_round1 :
    [0b1000000#7, 0b1000001#7, 0b1000010#7, 0b1000011#7, 0b1000100#7, 0b1000101#7, 0b1000110#7, 0b1000111#7,
     0b1001000#7, 0b1001001#7, 0b1001010#7, 0b1001011#7, 0b1001100#7, 0b1001101#7, 0b1001110#7, 0b1001111#7].map (fun sel => decode (.ustep sel)) =
    [.ok .md4Step0, .ok .md4Step1, .ok .md4Step2, .ok .md4Step3,
     .ok .md4Step4, .ok .md4Step5, .ok .md4Step6, .ok .md4Step7,
     .ok .md4Step8, .ok .md4Step9, .ok .md4Step10, .ok .md4Step11,
     .ok .md4Step12, .ok .md4Step13, .ok .md4Step14, .ok .md4Step15] := by decide +kernel

theorem test_decode_md4_round2 :
    [0b1010000#7, 0b1010001#7, 0b1010010#7, 0b1010011#7, 0b1010100#7, 0b1010101#7, 0b1010110#7, 0b1010111#7,
     0b1011000#7, 0b1011001#7, 0b1011010#7, 0b1011011#7, 0b1011100#7, 0b1011101#7, 0b1011110#7, 0b1011111#7].map (fun sel => decode (.ustep sel)) =
    [.ok .md4Step16, .ok .md4Step17, .ok .md4Step18, .ok .md4Step19,
     .ok .md4Step20, .ok .md4Step21, .ok .md4Step22, .ok .md4Step23,
     .ok .md4Step24, .ok .md4Step25, .ok .md4Step26, .ok .md4Step27,
     .ok .md4Step28, .ok .md4Step29, .ok .md4Step30, .ok .md4Step31] := by decide +kernel

theorem test_decode_md4_round3 :
    [0b1100000#7, 0b1100001#7, 0b1100010#7, 0b1100011#7, 0b1100100#7, 0b1100101#7, 0b1100110#7, 0b1100111#7,
     0b1101000#7, 0b1101001#7, 0b1101010#7, 0b1101011#7, 0b1101100#7, 0b1101101#7, 0b1101110#7, 0b1101111#7].map (fun sel => decode (.ustep sel)) =
    [.ok .md4Step32, .ok .md4Step33, .ok .md4Step34, .ok .md4Step35,
     .ok .md4Step36, .ok .md4Step37, .ok .md4Step38, .ok .md4Step39,
     .ok .md4Step40, .ok .md4Step41, .ok .md4Step42, .ok .md4Step43,
     .ok .md4Step44, .ok .md4Step45, .ok .md4Step46, .ok .md4Step47] := by decide +kernel

/-- A whole byte that is no command code is a selector (log 10). -/
theorem test_table_words :
    decodeTableWord 7 0b0000000 = some .md5Step0 ∧ decodeTableWord 3 0b000 = some (.md5b []) ∧
    decodeTableWord 8 0b00000000 = some (.md5b []) ∧ decodeTableWord 8 0b00000111 = some (.enc16 []) ∧
    decodeTableWord 8 0b00000100 = some .md5Step4 ∧ decodeTableWord 8 0b01101111 = some .md4Step47 ∧
    decodeTableWord 8 0b01110000 = none ∧ decodeTableWord 3 0b100 = none := by decide +kernel

/-! ### Primitives (95_test_vectors.md section 2) -/

theorem test_rotl32 :
    rotl32 0x80000000 1 = 0x00000001 ∧ rotl32 0x00000001 31 = 0x80000000 ∧ rotl32 0x12345678 4 = 0x23456781 ∧
    rotl32 0xd76aa4f7 7 = 0xb5527beb ∧ rotl32 0x80000001 23 = 0x00c00000 := by decide

theorem test_round_functions :
    fnF 0x0f0f0f0f 0x33333333 0x55555555 = 0x53535353 ∧ fnG5 0x0f0f0f0f 0x33333333 0x55555555 = 0x27272727 ∧
    fnH 0x0f0f0f0f 0x33333333 0x55555555 = 0x69696969 ∧ fnI 0x0f0f0f0f 0x33333333 0x55555555 = 0x9c9c9c9c ∧
    fnG4 0x0f0f0f0f 0x33333333 0x55555555 = 0x17171717 := by decide

/-! ### Encoders (section 3) -/

theorem test_utf8_row_boundaries :
    utf8 .threeByte [0x0000] = [0x00] ∧ utf8 .threeByte [0x007f] = [0x7f] ∧ utf8 .threeByte [0x0080] = [0xc2, 0x80] ∧
    utf8 .threeByte [0x07ff] = [0xdf, 0xbf] ∧ utf8 .threeByte [0x0800] = [0xe0, 0xa0, 0x80] ∧
    utf8 .threeByte [0xd7ff] = [0xed, 0x9f, 0xbf] ∧ utf8 .threeByte [0xe000] = [0xee, 0x80, 0x80] ∧
    utf8 .threeByte [0xffff] = [0xef, 0xbf, 0xbf] ∧ utf8 .threeByte [0xd800, 0xdc00] = [0xf0, 0x90, 0x80, 0x80] ∧
    utf8 .threeByte [0xdbff, 0xdfff] = [0xf4, 0x8f, 0xbf, 0xbf] := by decide

theorem test_utf8_lone_surrogates :
    utf8 .threeByte [0xdc00, 0xd800] = [0xed, 0xb0, 0x80, 0xed, 0xa0, 0x80] ∧
    utf8 .replacement [0xdc00, 0xd800] = [0xef, 0xbf, 0xbd, 0xef, 0xbf, 0xbd] ∧
    utf8 .threeByte [0xd800, 0xd800, 0xdc00] = [0xed, 0xa0, 0x80, 0xf0, 0x90, 0x80, 0x80] ∧
    utf8 .replacement [0xd800, 0x0041] = [0xef, 0xbf, 0xbd, 0x41] := by decide

theorem test_utf16le : utf16le [0xd83d, 0xde00, 0xd800, 0x20ac] = [0x3d, 0xd8, 0x00, 0xde, 0x00, 0xd8, 0xac, 0x20] := by decide

/-! ### Padding (41_padding.md section 3, 95_test_vectors.md sections 4 and 5) -/

theorem test_pad_abc :
    pad [0x61, 0x62, 0x63] = [0x61, 0x62, 0x63, 0x80] ++ List.replicate 52 0x00 ++ [0x18, 0, 0, 0, 0, 0, 0, 0] := by decide +kernel

theorem test_pad_56 :
    pad (List.replicate 56 0x61) =
      List.replicate 56 0x61 ++ [0x80] ++ List.replicate 63 0x00 ++ [0xc0, 0x01, 0, 0, 0, 0, 0, 0] := by decide +kernel

theorem test_block_counts :
    [0, 55, 56, 63, 64, 119, 120].map (fun n => numBlocks (pad (List.replicate n 0x61))) = [1, 1, 2, 2, 2, 2, 3] := by
  decide +kernel

/-- L = 2^32 - 1 and L = 2^32 + 5, through `LEN`. -/
theorem test_length_field :
    lenLo 0xffffffff = 0xfffffff8 ∧ lenHi 0xffffffff = 0x00000007 ∧ lenLo 0x00000005 = 0x00000028 ∧ lenHi 0x00000005 = 0 := by
  decide

/-! ### Output (sections 6 and 11) -/

theorem test_serialise :
    (serialise ⟨0xd98c1dd4, 0x04b2008f, 0x980980e9, 0x7e42f8ec⟩).toList =
      [0xd4, 0x1d, 0x8c, 0xd9, 0x8f, 0x00, 0xb2, 0x04, 0xe9, 0x80, 0x09, 0x98, 0xec, 0xf8, 0x42, 0x7e] := by decide

theorem test_hex :
    (hexOf #v[0x00, 0x01, 0x02, 0x0a, 0x0f, 0x10, 0x7f, 0x80, 0x9a, 0xab, 0xbc, 0xcd, 0xde, 0xef, 0xf0, 0xff]).toList =
      [0x30, 0x30, 0x30, 0x31, 0x30, 0x32, 0x30, 0x61, 0x30, 0x66, 0x31, 0x30, 0x37, 0x66, 0x38, 0x30,
       0x39, 0x61, 0x61, 0x62, 0x62, 0x63, 0x63, 0x64, 0x64, 0x65, 0x65, 0x66, 0x66, 0x30, 0x66, 0x66] := by decide +kernel

/-! ### The commands, one merged step each (sections 1, 4, 11, 12) -/

/-- "abc". -/
def abc : List Byte := [0x61, 0x62, 0x63]

/-- 62 bytes, all sixteen words different: "ABC...Zabc...z0123456789". -/
def alnum : List Byte :=
  (List.range 26).map (fun k => BitVec.ofNat 8 (0x41 + k)) ++ (List.range 26).map (fun k => BitVec.ofNat 8 (0x61 + k)) ++
    (List.range 10).map (fun k => BitVec.ofNat 8 (0x30 + k))

/-- "password". -/
def password : List CodeUnit := [0x70, 0x61, 0x73, 0x73, 0x77, 0x6f, 0x72, 0x64]

theorem test_md5b_abc : digestOut (exec (.md5b abc) (idle .operation .threeByte none)) =
    some [0x90, 0x01, 0x50, 0x98, 0x3c, 0xd2, 0x4f, 0xb0, 0xd6, 0x96, 0x3f, 0x7d, 0x28, 0xe1, 0x7f, 0x72] := by decide +kernel

theorem test_md5b_alnum : digestOut (exec (.md5b alnum) (idle .operation .threeByte none)) =
    some [0xd1, 0x74, 0xab, 0x98, 0xd2, 0x77, 0xd9, 0xf5, 0xa5, 0x61, 0x1c, 0x2c, 0x9f, 0x41, 0x9d, 0x9f] := by decide +kernel

theorem test_md4b_abc : digestOut (exec (.md4b abc) (idle .operation .threeByte none)) =
    some [0xa4, 0x48, 0x01, 0x7a, 0xaf, 0x21, 0xd8, 0x52, 0x5f, 0xc1, 0x0a, 0xe8, 0x7a, 0xa6, 0x72, 0x9d] := by decide +kernel

theorem test_md4b_alnum : digestOut (exec (.md4b alnum) (idle .operation .threeByte none)) =
    some [0x04, 0x3f, 0x85, 0x82, 0xf2, 0x41, 0xdb, 0x35, 0x1c, 0xe6, 0x27, 0xe1, 0x53, 0xe7, 0xf0, 0xe4] := by decide +kernel

theorem test_md5s_mixed : digestOut (exec (.md5s [0x00e9, 0x20ac, 0xd83d, 0xde00]) (idle .operation .threeByte none)) =
    some [0x3b, 0x07, 0xa3, 0x9f, 0xef, 0x0a, 0xc5, 0xd7, 0xef, 0x21, 0x57, 0x5e, 0x73, 0x15, 0xa4, 0x82] := by decide +kernel

theorem test_md5s_lone_replacement : digestOut (exec (.md5s [0xd800]) (idle .operation .replacement none)) =
    some [0x9b, 0x75, 0x90, 0x40, 0x32, 0x1a, 0x40, 0x8a, 0x5c, 0x77, 0x68, 0xb4, 0x51, 0x12, 0x87, 0xa6] := by decide +kernel

theorem test_ntlm_password : digestOut (exec (.ntlm password) (idle .operation .threeByte none)) =
    some [0x88, 0x46, 0xf7, 0xea, 0xee, 0x8f, 0xb1, 0x17, 0xad, 0x06, 0xbd, 0xd8, 0x30, 0xb7, 0x58, 0x6c] := by decide +kernel

theorem test_ntlm_empty : digestOut (exec (.ntlm []) (idle .operation .threeByte none)) =
    some [0x31, 0xd6, 0xcf, 0xe0, 0xd1, 0x6a, 0xe9, 0x31, 0xb7, 0x3c, 0x59, 0xd7, 0xe0, 0xc0, 0x89, 0xc0] := by decide +kernel

theorem test_enc8 : encodedOut (exec (.enc8 [0x00e9, 0x20ac, 0xd83d, 0xde00]) (idle .operation .threeByte none)) =
    some [0xc3, 0xa9, 0xe2, 0x82, 0xac, 0xf0, 0x9f, 0x98, 0x80] := by decide +kernel

theorem test_enc16 : encodedOut (exec (.enc16 password) (idle .operation .threeByte none)) =
    some [0x70, 0, 0x61, 0, 0x73, 0, 0x73, 0, 0x77, 0, 0x6f, 0, 0x72, 0, 0x64, 0] := by decide +kernel

theorem test_reserved_request_refused :
    refusalOut (step (offered .phase ⟨0b100#3, .bytes []⟩)) = some (.reservedCommand 0b100#3) := by decide

theorem test_too_long_refused : refusalOut (exec (.md5b abc) (idle .phase .threeByte (some 2))) = some .messageTooLong := by decide

/-! ### The micro-steps. A trace is the words written in order, after the entry values of `a, d, c, b`: step `j` replaces the word at
place `j` by the word at place `j + 4`. Each check is one step from the trace's own values. -/

/-- The registers before step `j` of a trace. -/
def regsBefore (h : List Word) (j : Nat) : Regs :=
  match j % 4 with
  | 0 => ⟨h.getD j 0, h.getD (j + 3) 0, h.getD (j + 2) 0, h.getD (j + 1) 0⟩
  | 1 => ⟨h.getD (j + 3) 0, h.getD (j + 2) 0, h.getD (j + 1) 0, h.getD j 0⟩
  | 2 => ⟨h.getD (j + 2) 0, h.getD (j + 1) 0, h.getD j 0, h.getD (j + 3) 0⟩
  | _ => ⟨h.getD (j + 1) 0, h.getD j 0, h.getD (j + 3) 0, h.getD (j + 2) 0⟩

/-- Step `j` of a trace on the block words `w`. -/
def stepAgrees (w : Vector Word 16) (h : List Word) (j : Nat) (i : Instr) : Bool :=
  match exec i { State.reset with regs := regsBefore h j, w := w, stepIdx := j } with
  | .next t => t.regs == regsBefore h (j + 1) && t.stepIdx == j + 1
  | _ => false

/-- Rows `rows`, the first of them step `j` of the trace. -/
def rowsAgree (w : Vector Word 16) (h : List Word) (j : Nat) (rows : List Instr) : Bool :=
  (List.range 16).all fun k => (rows[k]?.map (stepAgrees w h (j + k))).getD false

/-- The block of "abc" (section 7). -/
def abcWords : Vector Word 16 := #v[0x80636261, 0, 0, 0, 0, 0, 0, 0, 0, 0, 0, 0, 0, 0, 0x18, 0]

/-- The block of "password" in UTF-16LE (section 9). -/
def passwordWords : Vector Word 16 :=
  #v[0x00610070, 0x00730073, 0x006f0077, 0x00640072, 0x80, 0, 0, 0, 0, 0, 0, 0, 0, 0, 0x80, 0]

/-- Section 7: MD5 of "abc". -/
def md5Trace : List Word :=
  [0x67452301, 0x10325476, 0x98badcfe, 0xefcdab89, 0xd6d117b4, 0x344a8432, 0x2f6fbd72, 0x7ad956f2,
   0xc73741ef, 0x8bac3051, 0x207dc67b, 0x928d99f6, 0x854b3712, 0x74e2f284, 0x3020401c, 0x5ed49596,
   0xdda9b9a6, 0xa1051895, 0xe396856b, 0x72aff2e0] ++
  [0x3e9e9126, 0x4a1d804e, 0xe25e1652, 0xb5b204e4, 0x59a8ffda, 0x6d002f1e, 0xabfc7920, 0x47092c07,
   0xb7f268cf, 0x09388eff, 0xfe1623b1, 0x786acb8f, 0x790a77fb, 0x9f47e4f8, 0xa62884aa, 0x726342d3] ++
  [0xb3707ebf, 0x60127b2e, 0x8d212ff5, 0x3b0875c7, 0x21b117b9, 0x6e7429d5, 0x3575227e, 0x5a2f5ea5,
   0x11de1779, 0xfadcaa38, 0x31c465ca, 0x4c6124f4, 0x7f2e507b, 0x99d9679d, 0x8fae6399, 0x7beb9700] ++
  [0x7b201df8, 0xf4e8e96e, 0xb298cefd, 0x8bf025c4, 0x06cc5e8a, 0x5b0d97aa, 0x7d632dd0, 0x3bfa2c27,
   0x7f81cc35, 0x094454ab, 0x4f9dbe3f, 0x7327d604, 0x310ade8f, 0x624d8cb2, 0xe484b9d8, 0xc08226b3]

/-- Section 9: MD4 of the UTF-16LE bytes of "password". -/
def md4Trace : List Word :=
  [0x67452301, 0x10325476, 0x98badcfe, 0xefcdab89, 0x03080378, 0x301a3bd6, 0xbb067347, 0xfbc901de,
   0xf0d1f9f5, 0xf09fd615, 0xc22935b6, 0xf19f6516, 0x86dd8865, 0xae85d5d8, 0x46afe4ce, 0x8ffbc3a9,
   0x6c6ae9ed, 0xbacdc1de, 0x5549dba1, 0x2bae433d] ++
  [0x18e13d98, 0xe732f605, 0xdd98afb6, 0x2f8d4c7c, 0x1b7d2ec3, 0x2a53d28c, 0xf0f036c6, 0x1f9b7890,
   0x8a10dabd, 0xecd8d723, 0x171621b4, 0xd8cbc105, 0x0e90af6e, 0xbdbe3c0c, 0x6690b21c, 0xdf154c3b] ++
  [0x103aed54, 0xae7641ac, 0x23f801b6, 0xf29575d1, 0xf4f879bf, 0xca764a85, 0x69a212f7, 0xc1dfdc4d,
   0x32875096, 0x95a8a5a8, 0x614059fb, 0xba59fb94, 0x83b22387, 0x5c2662ba, 0x400229af, 0x27e3e465]

theorem test_md5_round1_rows : rowsAgree abcWords md5Trace 0 md5Round1Rows = true := by decide +kernel
theorem test_md5_round2_rows : rowsAgree abcWords md5Trace 16 md5Round2Rows = true := by decide +kernel
theorem test_md5_round3_rows : rowsAgree abcWords md5Trace 32 md5Round3Rows = true := by decide +kernel
theorem test_md5_round4_rows : rowsAgree abcWords md5Trace 48 md5Round4Rows = true := by decide +kernel
theorem test_md4_round1_rows : rowsAgree passwordWords md4Trace 0 md4Round1Rows = true := by decide +kernel
theorem test_md4_round2_rows : rowsAgree passwordWords md4Trace 16 md4Round2Rows = true := by decide +kernel
theorem test_md4_round3_rows : rowsAgree passwordWords md4Trace 32 md4Round3Rows = true := by decide +kernel

/-! ### Phases (section 7, program P1) -/

theorem test_pad_phase : (padPhase (accepted ⟨0b000#3, .bytes abc⟩)).len = 3 := by decide

theorem test_load_phase :
    (loadPhase { State.reset with pbs := pad abc, blk := 0 }).w = abcWords ∧
    (loadPhase { State.reset with pbs := pad abc, blk := 0 }).stepIdx = 0 := by decide +kernel

theorem test_feed_phase :
    (feedPhase { State.reset with
      regs := regsBefore md5Trace 64, saved := initRegs, pbs := pad abc, blk := 0 }).regs =
      ⟨0x98500190, 0xb04fd23c, 0x7d3f96d6, 0x727fe128⟩ := by decide +kernel

theorem test_feed_goes_to_out :
    (feedPhase { State.reset with pbs := pad abc, blk := 0 }).phase = .out ∧
    (feedPhase { State.reset with pbs := pad (List.replicate 56 0x61), blk := 0 }).phase = .load := by decide +kernel

/-- ENCOUT is written in OUT too (10_state.md R30), with MSG (R214). -/
theorem test_out_writes_encout :
    encodedOut (.next (outPhase { State.reset with op := 0b110#3, msg := [0xc3, 0xa9], encout := [] })) = some [0xc3, 0xa9] := by
  decide

/-- Program P1: 69 phase executions; P2: 54, 2 and 53; P3: 135. -/
theorem test_step_counts :
    opSteps ⟨none, .threeByte, .phase⟩ ⟨0b000#3, .bytes abc⟩ = 69 ∧
    opSteps ⟨none, .threeByte, .phase⟩ ⟨0b011#3, .string password⟩ = 54 ∧
    opSteps ⟨none, .threeByte, .phase⟩ ⟨0b111#3, .string password⟩ = 2 ∧
    opSteps ⟨none, .threeByte, .phase⟩ ⟨0b000#3, .bytes (List.replicate 56 0x61)⟩ = 135 := by decide +kernel

/-- The host's view of a row: the placed micro-step runs as the very next step. -/
theorem test_placed_step_runs :
    (match step (State.reset.withFetchWord 8 0x6f) with
     | .next t => t.stepIdx == 48 && t.phase == .feed
     | _ => false) = true := by decide +kernel

/-! ### Witnesses: values that meet the hypotheses of each obligation together, at the boundaries of its clauses -/

theorem witness_ReservedCommandsAreRefused :
    Ready (offered .phase ⟨0b100#3, .bytes []⟩) ∧ Ready (offered .phase ⟨0b101#3, .string [0x61]⟩) := ⟨⟨rfl, rfl⟩, ⟨rfl, rfl⟩⟩

theorem witness_StepRunsTheOfferedCommand :
    Ready (offered .phase ⟨0b000#3, .bytes abc⟩) ∧ (offered .phase ⟨0b000#3, .bytes abc⟩).offered = [⟨0b000#3, .bytes abc⟩] ∧
    decode (.cmd ⟨0b000#3, .bytes abc⟩) = .ok (.md5b abc) := ⟨⟨rfl, rfl⟩, rfl, rfl⟩

/-- An instance in phase STEP of command `op` at step `j`. -/
def atStep (op : BitVec 3) (j : Nat) : State := { State.reset with phase := .step, op := op, stepIdx := j }

theorem witness_StepRunsTheSelectedMicroStep :
    ((atStep 0b000#3 63).stepIdx < 64 ∧ (0x3f#7).toNat = (if (atStep 0b000#3 63).op.getLsbD 0 then 64 else 0) + 63 ∧
      decode (.ustep 0x3f#7) = .ok .md5Step63) ∧
    ((atStep 0b001#3 47).stepIdx < 64 ∧ (0x6f#7).toNat = (if (atStep 0b001#3 47).op.getLsbD 0 then 64 else 0) + 47 ∧
      decode (.ustep 0x6f#7) = .ok .md4Step47) := by decide +kernel

theorem witness_IdleInstanceHoldsItsState : Ready State.reset ∧ State.reset.offered = [] := ⟨⟨rfl, rfl⟩, rfl⟩

theorem witness_ResetAbandonsTheOperation :
    ({ accepted ⟨0b000#3, .bytes abc⟩ with resetApplied := true } : State).resetApplied = true ∧
    ({ accepted ⟨0b000#3, .bytes abc⟩ with resetApplied := true } : State).busy = true := ⟨rfl, rfl⟩

/-- A bound that the message just meets, for each command. -/
theorem witness_DigestCommandsDeliverTheirDigest :
    Ready (idle .operation .threeByte (some 3)) ∧ (idle .operation .threeByte (some 3)).params.granularity = .operation ∧
    admits (idle .operation .threeByte (some 3)).params abc.length = true ∧
    admits (idle .operation .threeByte (some 3)).params (utf8 .threeByte [0x20ac]).length = true ∧
    admits (idle .operation .threeByte (some 2)).params (utf16le [0x20ac]).length = true :=
  ⟨⟨rfl, rfl⟩, rfl, by decide, by decide, by decide⟩

theorem witness_EncodeOnlyCommandsDeliverTheirBytes :
    Ready (idle .operation .replacement none) ∧ (idle .operation .replacement none).params.granularity = .operation ∧
    admits (idle .operation .replacement none).params (utf8 .replacement [0xd800]).length = true ∧
    admits (idle .operation .replacement none).params (utf16le [0xd800]).length = true :=
  ⟨⟨rfl, rfl⟩, rfl, by decide, by decide⟩

theorem witness_CommandsAreAcceptedWhenIdleAndHeldWhenBusy :
    encode (.enc8 [0x41]) = .cmd ⟨0b110#3, .string [0x41]⟩ ∧ (accepted ⟨0b110#3, .string [0x41]⟩).busy = true ∧
    Ready (idle .phase .threeByte (some 1)) ∧ (idle .phase .threeByte (some 1)).params.granularity = .phase ∧
    (Instr.enc8 [0x41]).wellFormed (idle .phase .threeByte (some 1)).params = true :=
  ⟨rfl, rfl, ⟨rfl, rfl⟩, rfl, by decide⟩

theorem witness_OverlongMessagesAreRefused :
    encode (.md5b abc) = .cmd ⟨0b000#3, .bytes abc⟩ ∧ (idle .phase .threeByte (some 2)).busy = false ∧
    (idle .phase .threeByte (some 2)).params.maxMsgBytes = some 2 ∧
    2 < (requestMessage (idle .phase .threeByte (some 2)).params ⟨0b000#3, .bytes abc⟩).length ∧
    (idle .phase .threeByte none).busy = false ∧ (idle .phase .threeByte none).params.maxMsgBytes = none :=
  ⟨rfl, rfl, rfl, by decide, rfl, rfl⟩

theorem witness_StringDigestsAreDigestsOfTheEncodedString :
    Ready (idle .operation .threeByte none) ∧ (idle .operation .threeByte none).params.granularity = .operation :=
  ⟨⟨rfl, rfl⟩, rfl⟩

theorem witness_NoInstructionFaults : decode (.ustep 0x6f#7) = .ok .md4Step47 := by decide

/-- The last step of each round: 31 - 16, 47 - 32 and 63 - 48 are 15. -/
theorem witness_Md5Rows :
    md5Round1Rows[15]? = some .md5Step15 ∧ md5Round2Rows[15]? = some .md5Step31 ∧
    md5Round3Rows[15]? = some .md5Step47 ∧ md5Round4Rows[15]? = some .md5Step63 :=
  ⟨rfl, rfl, rfl, rfl⟩

theorem witness_Md4Rows :
    md4Round1Rows[15]? = some .md4Step15 ∧ md4Round2Rows[15]? = some .md4Step31 ∧
    md4Round3Rows[15]? = some .md4Step47 := ⟨rfl, rfl, rfl⟩

/-- The worked examples of R146 and R177. -/
theorem witness_FirstStepExamples :
    (∃ s : State, s.regs = ⟨0x67452301, 0xefcdab89, 0x98badcfe, 0x10325476⟩ ∧ s.w[0] = 0x00000080) ∧
    (∃ s : State, s.regs = ⟨0x67452301, 0xefcdab89, 0x98badcfe, 0x10325476⟩ ∧ s.w[0] = 0x80636261) :=
  ⟨⟨{ State.reset with regs := initRegs, w := Vector.replicate 16 0x80 }, rfl, rfl⟩,
   ⟨{ State.reset with regs := initRegs, w := abcWords }, rfl, rfl⟩⟩

theorem witness_RotationMovesEveryBit :
    (1 ≤ 1 ∧ 1 ≤ 31 ∧ 31 < 32 ∧ (rotl32 0x80000000 1).getLsbD ((31 + 1) % 32) = true) ∧
    (1 ≤ 31 ∧ 31 ≤ 31 ∧ 0 < 32 ∧ (rotl32 0x00000001 31).getLsbD ((0 + 31) % 32) = true) := by decide

theorem witness_Utf16leEmitsEachUnitLowByteFirst : ([0xd83d, 0xde00] : List CodeUnit)[1]? = some 0xde00 := by decide

/-- The rows' boundaries meet the hypothesis, and the two ends of it. -/
theorem witness_Utf8ScalarCarriesItsCodePoint :
    [0, 0x7F, 0x80, 0x7FF, 0x800, 0xFFFF, 0x10000, 0x10FFFF].map (fun cp => (utf8Scalar cp).length) =
      [1, 1, 2, 2, 3, 3, 4, 4] ∧ 0x10FFFF ≤ 0x10FFFF := by decide

/-- The four corners of the pairs; a high surrogate at the end, before a high one and before a low one's neighbour; both lone ends. -/
theorem witness_Utf8PairsSurrogatesFromTheLeft :
    utf8 .threeByte [0xd800, 0xdc00] = utf8Scalar 0x10000 ∧ utf8 .threeByte [0xdbff, 0xdfff] = utf8Scalar 0x10FFFF ∧
    utf8 .threeByte [0xdbff] = loneBytes .threeByte 0xdbff ∧
    utf8 .threeByte [0xdbff, 0xdbff] = loneBytes .threeByte 0xdbff ++ loneBytes .threeByte 0xdbff ∧
    utf8 .threeByte [0xd800, 0xe000] = loneBytes .threeByte 0xd800 ++ utf8Scalar 0xe000 ∧
    utf8 .threeByte [0xdc00, 0xdc00] = loneBytes .threeByte 0xdc00 ++ loneBytes .threeByte 0xdc00 ∧
    utf8 .threeByte [0xd7ff, 0xe000] = utf8Scalar 0xd7ff ++ utf8Scalar 0xe000 := by decide

theorem witness_LoneSurrogatesFollowTheParameter :
    0xD800 ≤ (0xd800 : CodeUnit).toNat ∧ (0xdfff : CodeUnit).toNat ≤ 0xDFFF ∧
    noLoneSurrogate [0x41, 0xd83d, 0xde00] = true ∧ noLoneSurrogate [0xd83d, 0xd83d, 0xde00] = false := by decide

theorem witness_Utf8IsTheIdentityOnAscii : ∀ u ∈ ([0x00, 0x7f] : List CodeUnit), u.toNat < 0x80 := by simp

theorem witness_LengthFieldIsTheBitLengthBelow4GiB :
    (List.replicate (2 ^ 32 - 1) (0 : Byte)).length < 2 ^ 32 ∧
    2 ^ 32 ≤ (List.replicate (2 ^ 32) (0 : Byte)).length ∧ (List.replicate (2 ^ 32) (0 : Byte)).length < 2 ^ 61 := by
  rw [List.length_replicate, List.length_replicate]; decide

theorem witness_PaddingMeetsItsPostconditions :
    1 ≤ 55 ∧ 55 ≤ zeroCount ([] : List Byte).length ∧ zeroCount (List.replicate 55 (0 : Byte)).length = 0 ∧
    abc.length < 2 ^ 32 ∧ pad abc = pad abc := ⟨by decide, by decide, by decide, by decide, rfl⟩

theorem witness_BlockWordsAreLittleEndian : 15 < 16 ∧ (List.replicate 64 (0x61 : Byte)).length = 64 := by decide

theorem witness_DigestBytesAreTheRegistersLittleEndian : 4 * 3 + 3 < 16 ∧ 3 < 4 ∧ xReg 3 = .d ∧ xReg 0 = .a := by decide

theorem witness_HexDeterminesTheDigest : ∃ d e : Vector Byte 16, hexOf d = hexOf e := ⟨Vector.replicate 16 0, _, rfl⟩

theorem witness_TableRowsComputeTheBlockFunctions :
    ∃ (s : State) (b : List Byte), s.w = wordsOf b := ⟨{ State.reset with w := wordsOf (pad abc) }, pad abc, rfl⟩

theorem witness_EncodedLengthsAreBounded :
    (0xD800 ≤ (0xdbff : CodeUnit).toNat ∧ (0xdbff : CodeUnit).toNat ≤ 0xDBFF) ∧
    (0xDC00 ≤ (0xdfff : CodeUnit).toNat ∧ (0xdfff : CodeUnit).toNat ≤ 0xDFFF) ∧ (utf8 .threeByte [0xdbff, 0xdfff]).length = 4 ∧
    (utf8 .replacement [0xdbff]).length = 3 ∧ (utf8 .threeByte [0x7ff]).length = 2 := by decide

theorem witness_RenamingFormOfTheMd5StepAgrees : 64 % 4 = 0 := by decide

theorem witness_EncodeAndPadPhases :
    (accepted ⟨0b010#3, .string password⟩).phase = .encode ∧ (accepted ⟨0b010#3, .string password⟩).resetApplied = false ∧
    (accepted ⟨0b000#3, .bytes abc⟩).phase = .pad ∧ (accepted ⟨0b000#3, .bytes abc⟩).resetApplied = false :=
  ⟨rfl, rfl, rfl, rfl⟩

/-- An instance that has padded "abc" and stands in phase `p`, at the last block. -/
def padded (p : Phase) : State := { padPhase (accepted ⟨0b000#3, .bytes abc⟩) with phase := p, blk := 0 }

theorem witness_InitAndLoadPhases :
    (padded .init).phase = .init ∧ (padded .init).resetApplied = false ∧ (padded .load).phase = .load ∧
    (padded .load).resetApplied = false ∧ 64 * (padded .load).blk + 64 ≤ (padded .load).pbs.length := by decide +kernel

theorem witness_FeedPhaseAddsTheSavedRegisters : (padded .feed).resetApplied = false ∧ (padded .feed).phase = .feed := ⟨rfl, rfl⟩

/-- An instance that has encoded "password" for `ENC16` and stands in OUT. -/
def encoded : State := encodePhase (accepted ⟨0b111#3, .string password⟩)

theorem witness_OutPhaseDeliversAndClears :
    ((padded .out).resetApplied = false ∧ (padded .out).phase = .out ∧ (padded .out).op.getLsbD 2 = false) ∧
    (encoded.resetApplied = false ∧ encoded.phase = .out ∧ encoded.op.getLsbD 2 = true ∧ encoded.encout = encoded.msg) :=
  ⟨⟨rfl, rfl, rfl⟩, ⟨rfl, rfl, rfl, rfl⟩⟩

theorem witness_OutWritesTheEncoderOutputItDelivers :
    encoded.resetApplied = false ∧ encoded.phase = .out ∧ encoded.op.getLsbD 2 = true ∧
    ({ encoded with encout := [0xff] } : State).phase = .out ∧ ({ encoded with encout := [0xff] } : State).encout ≠ encoded.msg :=
  ⟨rfl, rfl, rfl, rfl, by decide⟩

theorem witness_PhasesFollowTheirOrder :
    (padded .load).resetApplied = false ∧ step (padded .load) = .next (loadPhase (padded .load)) :=
  ⟨rfl, (step_load rfl rfl).trans (if_pos (by decide +kernel))⟩

theorem witness_ParametersNeverChange : step (padded .feed) = .next (feedPhase (padded .feed)) := step_feed rfl rfl

/-- A busy step to a busy state from each phase that has one: ENCODE (to PAD and to OUT), PAD, INIT, LOAD, STEP and FEED (to OUT). -/
theorem witness_RunningOperationKeepsWhatItLatched :
    (step (accepted ⟨0b010#3, .string password⟩) = .next (encodePhase (accepted ⟨0b010#3, .string password⟩)) ∧
      (encodePhase (accepted ⟨0b010#3, .string password⟩)).busy = true) ∧
    (step (accepted ⟨0b111#3, .string password⟩) = .next encoded ∧ encoded.busy = true) ∧
    (step (padded .pad) = .next (padPhase (padded .pad)) ∧ (padPhase (padded .pad)).busy = true) ∧
    (step (padded .init) = .next (initPhase (padded .init)) ∧ (initPhase (padded .init)).busy = true) ∧
    (step (padded .load) = .next (loadPhase (padded .load)) ∧ (loadPhase (padded .load)).busy = true) ∧
    (step (atStep 0b000#3 62) = .next (afterMicroStep (stepped .md5 62 (atStep 0b000#3 62))) ∧
      (afterMicroStep (stepped .md5 62 (atStep 0b000#3 62))).busy = true) ∧
    (step (padded .feed) = .next (feedPhase (padded .feed)) ∧ (feedPhase (padded .feed)).phase = .out ∧
      (feedPhase (padded .feed)).busy = true) :=
  ⟨⟨step_encode rfl rfl, rfl⟩, ⟨step_encode rfl rfl, rfl⟩, ⟨step_pad rfl rfl, rfl⟩, ⟨step_init rfl rfl, rfl⟩,
   ⟨(step_load rfl rfl).trans (if_pos (by decide +kernel)), rfl⟩, ⟨step_step rfl rfl (by decide), by decide +kernel⟩,
   ⟨step_feed rfl rfl, by decide +kernel, by decide +kernel⟩⟩

theorem witness_OffersWhileBusyHaveNoEffect :
    (padded .out).resetApplied = false ∧ (padded .out).busy = true ∧ step (padded .out) = .next (outPhase (padded .out)) :=
  ⟨rfl, rfl, step_out rfl rfl⟩

/-- Two messages of one length. -/
theorem witness_ControlDoesNotDependOnData :
    (accepted ⟨0b000#3, .bytes [0x61]⟩).msg.length = (accepted ⟨0b000#3, .bytes [0x62]⟩).msg.length ∧
    (accepted ⟨0b000#3, .bytes [0x61]⟩).phase = .pad ∧ (accepted ⟨0b000#3, .bytes [0x62]⟩).phase = .pad ∧
    step (accepted ⟨0b000#3, .bytes [0x61]⟩) = .next (padPhase (accepted ⟨0b000#3, .bytes [0x61]⟩)) ∧
    (padPhase (accepted ⟨0b000#3, .bytes [0x61]⟩)).busy = true := ⟨rfl, rfl, rfl, step_pad rfl rfl, rfl⟩

theorem witness_invariant : SequencerInv (accepted ⟨0b000#3, .bytes abc⟩) :=
  ⟨rfl, fun h => absurd h (by decide), rfl⟩

theorem witness_StepKeepsTheSequencerInvariant :
    SequencerInv (accepted ⟨0b000#3, .bytes abc⟩) ∧
    step (accepted ⟨0b000#3, .bytes abc⟩) = .next (padPhase (accepted ⟨0b000#3, .bytes abc⟩)) :=
  ⟨witness_invariant, step_pad rfl rfl⟩

theorem witness_NoStepIsStuckUnderTheInvariant :
    SequencerInv (accepted ⟨0b000#3, .bytes abc⟩) ∧ (accepted ⟨0b000#3, .bytes abc⟩).busy = true := ⟨witness_invariant, rfl⟩

theorem witness_OperationTakesItsStepsAndDeliversItsResponse :
    Ready (offered .phase ⟨0b011#3, .string password⟩) ∧ (offered .phase ⟨0b011#3, .string password⟩).params.granularity = .phase ∧
    (⟨0b011#3, .string password⟩ : Request).wellFormed (offered .phase ⟨0b011#3, .string password⟩).params = true ∧
    53 < opSteps (offered .phase ⟨0b011#3, .string password⟩).params ⟨0b011#3, .string password⟩ :=
  ⟨⟨rfl, rfl⟩, rfl, by decide, by decide +kernel⟩

theorem witness_MergedAndPhasedOperationsAgree :
    Ready (offered .operation ⟨0b000#3, .bytes abc⟩) ∧ ∃ t, step (offered .operation ⟨0b000#3, .bytes abc⟩) = .next t :=
  ⟨⟨rfl, rfl⟩, _, (step_idle_ok rfl rfl rfl (i := .md5b abc) rfl).trans
    ((exec_of_decodeRequest (r := ⟨0b000#3, .bytes abc⟩) rfl _).trans (runCommand_merged rfl rfl rfl))⟩

theorem witness_EveryOperationEnds :
    SequencerInv (accepted ⟨0b000#3, .bytes abc⟩) ∧ (accepted ⟨0b000#3, .bytes abc⟩).resetApplied = false ∧
    (accepted ⟨0b000#3, .bytes abc⟩).busy = true := ⟨witness_invariant, rfl, rfl⟩

theorem witness_RequestsAreServedInOrderEachOnItsOwn :
    Ready ({ idle .phase .threeByte none with offered := [⟨0b000#3, .bytes abc⟩, ⟨0b110#3, .string [0xd800]⟩] } : State) ∧
    ∀ r ∈ [(⟨0b000#3, .bytes abc⟩ : Request), ⟨0b110#3, .string [0xd800]⟩], r.wellFormed ⟨none, .threeByte, .phase⟩ = true :=
  ⟨⟨rfl, rfl⟩, by decide⟩

/-- Two instances, the first of them offered a reserved code; the schedule gives the second its three steps. And the two ends of the
conclusion: an instance with nothing offered, an instance that merges its operations. -/
theorem witness_InstancesServeTheirOwnOffersInAnySchedule :
    ([offered .phase ⟨0b100#3, .bytes []⟩, offered .phase ⟨0b110#3, .string [0x41]⟩] : System)[1]? =
      some (offered .phase ⟨0b110#3, .string [0x41]⟩) ∧
    Ready (offered .phase ⟨0b110#3, .string [0x41]⟩) ∧
    (∀ r ∈ (offered .phase ⟨0b110#3, .string [0x41]⟩).offered,
      r.wellFormed (offered .phase ⟨0b110#3, .string [0x41]⟩).params = true) ∧
    serveSteps (offered .phase ⟨0b110#3, .string [0x41]⟩).params (offered .phase ⟨0b110#3, .string [0x41]⟩).offered = 3 ∧
    3 ≤ [1, 0, 1, 0, 1].count 1 ∧
    serveSteps (idle .operation .threeByte none).params (idle .operation .threeByte none).offered ≤ ([] : List Nat).count 0 :=
  ⟨rfl, ⟨rfl, rfl⟩, by decide, by decide, by decide, by decide⟩


end Sys2Proof.Tests
end

section
/-! SUPPORT. The words of a block, the last block of a padded message, and the obligation about both (O38). -/

namespace Sys2Proof.Machine

/-- Word `k` of a block is the word read at byte `4k` (20_memory.md R50). -/
@[simp] theorem wordsOf_getElem (b : List Byte) (k : Nat) (h : k < 16) : (wordsOf b)[k] = memRead b (4 * k) := by
  simp [wordsOf]

/-- What a padded message holds before its length field (41_padding.md R120). -/
def padBody (m : List Byte) : List Byte :=
  m ++ [0x80] ++ List.replicate (zeroCount m.length) 0x00

theorem pad_eq_padBody_append (m : List Byte) :
    pad m = padBody m ++ (le32 (lenLo (lenOf m)) ++ le32 (lenHi (lenOf m))) :=
  pad_split m

/-- The last block starts 56 bytes before the length field (R123). -/
theorem padBody_length (m : List Byte) : (padBody m).length = 64 * (numBlocks (pad m) - 1) + 56 := by
  have hpad := pad_length_eq m
  have hblocks := numBlocks_pad_eq m
  simp only [pad_eq_padBody_append, List.length_append, le32_length] at hpad
  omega

/-- The first 56 bytes of the last block of a padded message. -/
def lastBlockBody (m : List Byte) : List Byte :=
  (padBody m).drop (64 * (numBlocks (pad m) - 1))

@[simp] theorem lastBlockBody_length (m : List Byte) : (lastBlockBody m).length = 56 := by
  simp [lastBlockBody, padBody_length]

/-- The last block of a padded message ends in the length field (R120, R123). -/
theorem blockAt_last_pad (m : List Byte) :
    blockAt (pad m) (numBlocks (pad m) - 1) =
      lastBlockBody m ++ le32 (lenLo (lenOf m)) ++ le32 (lenHi (lenOf m)) := by
  have hstart : 64 * (numBlocks (pad m) - 1) ≤ (padBody m).length := by rw [padBody_length]; omega
  have hdrop : (pad m).drop (64 * (numBlocks (pad m) - 1)) =
      lastBlockBody m ++ le32 (lenLo (lenOf m)) ++ le32 (lenHi (lenOf m)) := by
    conv_lhs => arg 2; rw [pad_eq_padBody_append]
    rw [List.drop_append_of_le_length hstart, ← List.append_assoc, lastBlockBody]
  rw [blockAt, slice, hdrop, List.take_of_length_le (by simp)]

/-- Word 14 stands 56 bytes into the last block, where the length field begins (R124). -/
theorem wordsOf_last_block_14 (m : List Byte) :
    (wordsOf (blockAt (pad m) (numBlocks (pad m) - 1)))[14] = lenLo (lenOf m) := by
  simpa [blockAt_last_pad] using memRead_le32 (lastBlockBody m) (le32 (lenHi (lenOf m))) (lenLo (lenOf m))

/-- Word 15 follows the low word of the length field and ends the last block (R124). -/
theorem wordsOf_last_block_15 (m : List Byte) :
    (wordsOf (blockAt (pad m) (numBlocks (pad m) - 1)))[15] = lenHi (lenOf m) := by
  simpa [blockAt_last_pad] using memRead_le32 (lastBlockBody m ++ le32 (lenLo (lenOf m))) [] (lenHi (lenOf m))

/-- Settles O38: each word is a little-endian read, and the last block ends in the two words of the length field. -/
theorem blockWordsAreLittleEndian : Obligations.BlockWordsAreLittleEndian := by
  unfold Obligations.BlockWordsAreLittleEndian
  refine ⟨fun b k hk _ => ?_, fun m => ⟨wordsOf_last_block_14 m, wordsOf_last_block_15 m⟩⟩
  rw [wordsOf_getElem, memRead_toNat]

end Sys2Proof.Machine
end

section
/-! SUPPORT. What the decoder answers to a reserved code, and the obligation about its refusal (O3). -/

namespace Sys2Proof

/-- 30_encoding.md R80: a reserved code spells no command, whatever its operand. -/
theorem decodeRequest_reserved {op : BitVec 3} (h : op = 0b100#3 ∨ op = 0b101#3) (x : Operand) :
    decodeRequest ⟨op, x⟩ = .error (.reservedCommand op) := by
  rcases h with rfl | rfl
  · rfl
  · rfl

end Sys2Proof

namespace Sys2Proof.Machine

/-- Settles O3: the decoder rejects the reserved code, and an idle instance refuses what its decoder rejects. -/
theorem reservedCommandsAreRefused : Obligations.ReservedCommandsAreRefused := by
  unfold Obligations.ReservedCommandsAreRefused
  rintro s x op rest ⟨hidle, hreset⟩ hop hoffered
  exact step_idle_error hreset hidle hoffered (decodeRequest_reserved hop x)

end Sys2Proof.Machine
end

section
/-! SUPPORT. UTF-16LE unit by unit, and the obligation about its bytes (O28). -/

namespace Sys2Proof.Machine

/-- The two bytes of a unit as numbers (20_memory.md R53). -/
theorem unitBytes_eq_ofNat (u : CodeUnit) :
    unitBytes u = [BitVec.ofNat 8 (u.toNat % 256), BitVec.ofNat 8 (u.toNat / 256)] := by
  have hlow : u.extractLsb' 0 8 = BitVec.ofNat 8 (u.toNat % 256) :=
    BitVec.eq_of_toNat_eq (by simp)
  have hhigh : u.extractLsb' 8 8 = BitVec.ofNat 8 (u.toNat / 256) :=
    BitVec.eq_of_toNat_eq (by simp [Nat.shiftRight_eq_div_pow])
  rw [unitBytes, hlow, hhigh]

theorem utf16le_cons (u : CodeUnit) (s : List CodeUnit) :
    utf16le (u :: s) =
      BitVec.ofNat 8 (u.toNat % 256) :: BitVec.ofNat 8 (u.toNat / 256) :: utf16le s := by
  simp [utf16le, unitBytes_eq_ofNat]

/-- Unit `i` of the string stands at bytes `2i` and `2i + 1` (40_encoders.md R101). -/
theorem utf16le_getElem? {s : List CodeUnit} {i : Nat} {u : CodeUnit} (h : s[i]? = some u) :
    (utf16le s)[2 * i]? = some (BitVec.ofNat 8 (u.toNat % 256)) ∧
      (utf16le s)[2 * i + 1]? = some (BitVec.ofNat 8 (u.toNat / 256)) := by
  induction s generalizing i with
  | nil => simp at h
  | cons v s ih =>
    rw [utf16le_cons]
    cases i with
    | zero =>
      obtain rfl : v = u := by simpa using h
      exact ⟨rfl, rfl⟩
    | succ i => exact ih (by simpa using h)

/-- Settles O28: by induction on the string, each unit emitting exactly two bytes. -/
theorem utf16leEmitsEachUnitLowByteFirst : Obligations.Utf16leEmitsEachUnitLowByteFirst := by
  unfold Obligations.Utf16leEmitsEachUnitLowByteFirst
  exact fun s => ⟨utf16le_length s, fun _ _ h => utf16le_getElem? h⟩

end Sys2Proof.Machine
end

section
/-! SUPPORT. The encoding of one code point, row by row, and the obligation about it (O29). -/

namespace Sys2Proof.Machine

theorem utf8Scalar_length (cp : Nat) : (utf8Scalar cp).length = scalarLength cp := by
  unfold utf8Scalar scalarLength
  split
  · rfl
  split
  · rfl
  split
  · rfl
  · rfl

/-- The bytes have the fixed bits of their row, and reading the `x` bits back gives the code point (40_encoders.md R103). -/
theorem utf8Scalar_shape_and_bits {cp : Nat} (h : cp ≤ 0x10FFFF) :
    scalarShape (utf8Scalar cp) = true ∧ scalarBits (utf8Scalar cp) = cp := by
  unfold utf8Scalar
  split
  · simp [scalarShape, scalarBits]; omega
  split
  · have hlead := leadTwo_toNat (cp >>> 6) (by omega)
    simp only [scalarShape, scalarBits, isCont, contByte_toNat, hlead, Bool.and_eq_true, beq_iff_eq]
    omega
  split
  · have hlead := leadThree_toNat (cp >>> 12) (by omega)
    simp only [scalarShape, scalarBits, isCont, contByte_toNat, hlead, Bool.and_eq_true, beq_iff_eq]
    omega
  · have hlead := leadFour_toNat (cp >>> 18) (by omega)
    simp only [scalarShape, scalarBits, isCont, contByte_toNat, hlead, Bool.and_eq_true, beq_iff_eq]
    omega

/-- Settles O29: row by row, with the lead and continuation bytes read as numbers. -/
theorem utf8ScalarCarriesItsCodePoint : Obligations.Utf8ScalarCarriesItsCodePoint := by
  unfold Obligations.Utf8ScalarCarriesItsCodePoint
  exact fun cp h => ⟨utf8Scalar_length cp, utf8Scalar_shape_and_bits h⟩

end Sys2Proof.Machine
end

section
/-! SUPPORT. The scan of the UTF-8 encoder: its equation for a pair, for an unpaired surrogate and for any other unit; and the
obligation about it (O30). -/

namespace Sys2Proof.Machine

@[simp] theorem isHigh_iff (u : CodeUnit) : isHigh u = true ↔ 0xD800 ≤ u.toNat ∧ u.toNat ≤ 0xDBFF := by
  simp [isHigh]

@[simp] theorem isLow_iff (u : CodeUnit) : isLow u = true ↔ 0xDC00 ≤ u.toNat ∧ u.toNat ≤ 0xDFFF := by
  simp [isLow]

@[simp] theorem isSurrogate_iff (u : CodeUnit) :
    isSurrogate u = true ↔ 0xD800 ≤ u.toNat ∧ u.toNat ≤ 0xDFFF := by
  simp [isSurrogate]

theorem pairPoint_eq (u v : CodeUnit) :
    pairPoint u v = 0x10000 + (u.toNat - 0xD800) * 1024 + (v.toNat - 0xDC00) := by
  unfold pairPoint
  omega

/-- A pair lies beyond the range of three bytes (40_encoders.md R104). -/
theorem utf8Scalar_pairPoint_length (u v : CodeUnit) : (utf8Scalar (pairPoint u v)).length = 4 :=
  utf8Scalar_length_four _ (by rw [pairPoint_eq]; omega)

theorem utf8_pair (p : LoneSurr) {u v : CodeUnit} (rest : List CodeUnit)
    (hu : isHigh u = true) (hv : isLow v = true) :
    utf8 p (u :: v :: rest) = utf8Scalar (pairPoint u v) ++ utf8 p rest := by
  rw [utf8, if_pos (by rw [hu, hv]; rfl)]

theorem unpairedBytes_surrogate (p : LoneSurr) {u : CodeUnit} (h : isSurrogate u = true) :
    unpairedBytes p u = loneBytes p u :=
  if_pos h

theorem unpairedBytes_nonsurrogate (p : LoneSurr) {u : CodeUnit} (h : ¬ isSurrogate u = true) :
    unpairedBytes p u = utf8Scalar u.toNat :=
  if_neg h

/-- A surrogate that no low one makes a pair with is unpaired (R104). -/
theorem utf8_lone (p : LoneSurr) {u : CodeUnit} {rest : List CodeUnit} (hu : isSurrogate u = true)
    (h : ∀ v tail, rest = v :: tail → (isHigh u && isLow v) = false) :
    utf8 p (u :: rest) = loneBytes p u ++ utf8 p rest := by
  rw [utf8_cons p u rest h, unpairedBytes_surrogate p hu]

/-- A unit that is no surrogate is its own code point, whatever follows it (R104). -/
theorem utf8_nonsurrogate (p : LoneSurr) {u : CodeUnit} (rest : List CodeUnit)
    (hu : ¬ isSurrogate u = true) :
    utf8 p (u :: rest) = utf8Scalar u.toNat ++ utf8 p rest := by
  have hhigh : isHigh u = false := by
    rw [← Bool.not_eq_true, isHigh_iff]
    rw [isSurrogate_iff] at hu
    omega
  rw [utf8_cons p u rest (by simp [hhigh]), unpairedBytes_nonsurrogate p hu]

/-- Settles O30: the three equations of the scan. -/
theorem utf8PairsSurrogatesFromTheLeft : Obligations.Utf8PairsSurrogatesFromTheLeft := by
  unfold Obligations.Utf8PairsSurrogatesFromTheLeft
  intro p u rest
  refine ⟨rfl, ?pair, ?lone, ?other⟩
  case pair =>
    rintro v tail rfl hu hv
    rw [← pairPoint_eq]
    exact ⟨utf8_pair p tail ((isHigh_iff u).mpr hu) ((isLow_iff v).mpr hv),
      utf8Scalar_pairPoint_length u v⟩
  case lone =>
    intro hu hnext
    refine utf8_lone p ((isSurrogate_iff u).mpr hu) fun v tail hrest => ?_
    have hv := hnext v tail hrest
    rw [Bool.eq_false_iff, ne_eq, Bool.and_eq_true, isHigh_iff, isLow_iff]
    exact fun ⟨hhigh, hlow⟩ => hv hhigh.2 hlow
  case other =>
    exact fun hu => utf8_nonsurrogate p rest (mt (isSurrogate_iff u).mp hu)

end Sys2Proof.Machine
end

section
/-! SUPPORT. Where the encoding depends on the parameter, and the obligation about it (O31). -/

namespace Sys2Proof.Machine

/-- The three-byte treatment with its bytes as numbers (40_encoders.md R105). -/
theorem loneBytes_threeByte (u : CodeUnit) :
    loneBytes .threeByte u =
      [BitVec.ofNat 8 (0xE0 + u.toNat / 4096), BitVec.ofNat 8 (0x80 + u.toNat / 64 % 64),
        BitVec.ofNat 8 (0x80 + u.toNat % 64)] := by
  have hlead : BitVec.ofNat 8 (0xE0 ||| (u.toNat >>> 12)) = BitVec.ofNat 8 (0xE0 + u.toNat / 4096) := by
    have hu := u.isLt
    apply BitVec.eq_of_toNat_eq
    rw [leadThree_toNat _ (by omega), BitVec.toNat_ofNat]
    omega
  have hcont (n : Nat) : contByte n = BitVec.ofNat 8 (0x80 + n % 64) := by
    apply BitVec.eq_of_toNat_eq
    rw [contByte_toNat, BitVec.toNat_ofNat]
    omega
  rw [loneBytes, hlead, hcont, hcont, Nat.shiftRight_eq_div_pow]

theorem utf8_singleton_surrogate (p : LoneSurr) {u : CodeUnit} (h : isSurrogate u = true) :
    utf8 p [u] = loneBytes p u :=
  unpairedBytes_surrogate p h

/-- The parameter speaks of unpaired surrogates only (R105). -/
theorem utf8_eq_of_noLoneSurrogate (p q : LoneSurr) {s : List CodeUnit} (h : noLoneSurrogate s = true) :
    utf8 p s = utf8 q s := by
  induction s using utf8.induct with
  | case1 => rfl
  | case2 u =>
    rw [noLoneSurrogate, Bool.not_eq_true', ← Bool.not_eq_true] at h
    rw [utf8_nonsurrogate p [] h, utf8_nonsurrogate q [] h]
    rfl
  | case3 u v rest hpair ih =>
    rw [noLoneSurrogate, if_pos hpair] at h
    rw [utf8, utf8, if_pos hpair, if_pos hpair, ih h]
  | case4 u v rest hpair ih =>
    rw [noLoneSurrogate, if_neg hpair, Bool.and_eq_true, Bool.not_eq_true', ← Bool.not_eq_true] at h
    obtain ⟨hu, hrest⟩ := h
    rw [utf8_nonsurrogate p _ hu, utf8_nonsurrogate q _ hu, ih hrest]

/-- Settles O31: both treatments on one unit, and the scan of a string that never reaches either. -/
theorem loneSurrogatesFollowTheParameter : Obligations.LoneSurrogatesFollowTheParameter := by
  unfold Obligations.LoneSurrogatesFollowTheParameter
  refine ⟨fun u hlo hhi => ?_, fun s h => utf8_eq_of_noLoneSurrogate _ _ h⟩
  have hu := (isSurrogate_iff u).mpr ⟨hlo, hhi⟩
  rw [utf8_singleton_surrogate _ hu, utf8_singleton_surrogate _ hu]
  exact ⟨loneBytes_threeByte u, rfl⟩

end Sys2Proof.Machine
end

section
/-! SUPPORT. ASCII strings, and the obligation about them (O32). -/

namespace Sys2Proof.Machine

/-- An ASCII unit is the one byte of its value (40_encoders.md R106). -/
theorem utf8_cons_ascii (p : LoneSurr) {u : CodeUnit} (rest : List CodeUnit) (h : u.toNat < 0x80) :
    utf8 p (u :: rest) = u.setWidth 8 :: utf8 p rest := by
  have hscalar : utf8Scalar u.toNat = [u.setWidth 8] := by
    rw [utf8Scalar, if_pos (by omega), BitVec.ofNat_toNat]
  rw [utf8_nonsurrogate p rest (by rw [isSurrogate_iff]; omega), hscalar]
  rfl

/-- Settles O32: by induction on the string. -/
theorem utf8IsTheIdentityOnAscii : Obligations.Utf8IsTheIdentityOnAscii := by
  unfold Obligations.Utf8IsTheIdentityOnAscii
  intro p s h
  induction s with
  | nil => rfl
  | cons u s ih =>
    obtain ⟨hu, hs⟩ := List.forall_mem_cons.mp h
    rw [utf8_cons_ascii p s hu, ih hs, List.map_cons]

end Sys2Proof.Machine
end

section
/-! SUPPORT. The lengths of the encodings, and the obligation about them (O33). -/

namespace Sys2Proof.Machine

/-- A pair gives four bytes for its two units, any other unit one to three (40_encoders.md R110). -/
theorem utf8_length_bounds (p : LoneSurr) (s : List CodeUnit) :
    s.length ≤ (utf8 p s).length ∧ (utf8 p s).length ≤ 3 * s.length := by
  induction s using utf8.induct with
  | case1 => exact ⟨Nat.le_refl 0, Nat.le_refl 0⟩
  | case2 u => exact unpairedBytes_length p u
  | case3 u v rest hpair ih =>
    rw [utf8, if_pos hpair, List.length_append, utf8Scalar_pairPoint_length]
    simp only [List.length_cons]
    omega
  | case4 u v rest hpair ih =>
    have hunit := unpairedBytes_length p u
    rw [utf8, if_neg hpair, List.length_append]
    simp only [List.length_cons] at ih ⊢
    omega

/-- Both treatments of an unpaired surrogate have the length of its row (R105, R110). -/
theorem unpairedBytes_length_eq (p : LoneSurr) (u : CodeUnit) :
    (unpairedBytes p u).length = if u.toNat < 0x80 then 1 else if u.toNat < 0x800 then 2 else 3 := by
  by_cases hu : isSurrogate u = true
  · have hlength : (loneBytes p u).length = 3 := by cases p <;> rfl
    have hrange := (isSurrogate_iff u).mp hu
    rw [unpairedBytes_surrogate p hu, hlength, if_neg (by omega), if_neg (by omega)]
  · have hlt := u.isLt
    rw [unpairedBytes_nonsurrogate p hu, utf8Scalar_length, scalarLength]
    split_ifs <;> omega

/-- Settles O33: the bounds by induction along the scan, the rest unit by unit. -/
theorem encodedLengthsAreBounded : Obligations.EncodedLengthsAreBounded := by
  unfold Obligations.EncodedLengthsAreBounded
  intro p s
  obtain ⟨hlower, hupper⟩ := utf8_length_bounds p s
  refine ⟨utf16le_length s, hlower, hupper, unpairedBytes_length_eq p, fun u v hu hv => ?_⟩
  rw [utf8_pair p [] ((isHigh_iff u).mpr hu) ((isLow_iff v).mpr hv), List.length_append,
    utf8Scalar_pairPoint_length]
  rfl

end Sys2Proof.Machine
end

section
/-! SUPPORT. The three parts of a padded message, and the obligation about them (O34). -/

namespace Sys2Proof.Machine

/-- The model's count is the remainder R120 names, over the integers (41_padding.md). -/
theorem zeroCount_eq_emod (l : Nat) : (zeroCount l : Int) = (55 - (l : Int)) % 64 := by
  unfold zeroCount
  omega

theorem zeroCount_le (l : Nat) : zeroCount l ≤ 63 := by
  unfold zeroCount
  omega

theorem add_one_add_zeroCount_mod (l : Nat) : (l + 1 + zeroCount l) % 64 = 56 := by
  unfold zeroCount
  omega

/-- The zeros stop at the first length that is 56 modulo 64 (R120). -/
theorem zeroCount_least {l y : Nat} (h : y < zeroCount l) : (l + 1 + y) % 64 ≠ 56 := by
  unfold zeroCount at h
  omega

/-- The length field written out byte by byte (R120, R121). -/
theorem lengthField_eq_flatMap (m : List Byte) :
    le32 (lenLo (lenOf m)) ++ le32 (lenHi (lenOf m)) =
      [8 * m.length % 2 ^ 32, m.length % 2 ^ 32 / 2 ^ 29].flatMap (fun v =>
        [BitVec.ofNat 8 v, BitVec.ofNat 8 (v / 256), BitVec.ofNat 8 (v / 65536),
          BitVec.ofNat 8 (v / 16777216)]) := by
  rw [le32_eq_ofNat, le32_eq_ofNat, lenLo_toNat, lenHi_eq]
  rfl

/-- Settles O34: the count of zeros has the stated value and is the least, and the parts stand in order. -/
theorem paddingAppendsItsThreeParts : Obligations.PaddingAppendsItsThreeParts := by
  unfold Obligations.PaddingAppendsItsThreeParts
  intro m
  refine ⟨zeroCount m.length, zeroCount_eq_emod _, zeroCount_le _, ?_, add_one_add_zeroCount_mod _,
    fun _ hy => zeroCount_least hy⟩
  rw [pad_split, lengthField_eq_flatMap]

end Sys2Proof.Machine
end

section
/-! SUPPORT. The length field as one number and byte by byte, and the obligation about it (O35). -/

namespace Sys2Proof.Machine

/-- The two halves together are 8 times the length modulo 2^32 (41_padding.md R121, R122). -/
theorem lengthField_value (m : List Byte) :
    (lenLo (lenOf m)).toNat + 2 ^ 32 * (lenHi (lenOf m)).toNat = 8 * (m.length % 2 ^ 32) := by
  rw [lenLo_toNat, lenHi_eq]
  omega

/-- The length field follows the padded body (R120). -/
theorem pad_length_sub_eight (m : List Byte) : (pad m).length - 8 = (padBody m).length := by
  simp [pad_eq_padBody_append]

theorem pad_drop_lengthField (m : List Byte) :
    (pad m).drop ((pad m).length - 8) = le32 (lenLo (lenOf m)) ++ le32 (lenHi (lenOf m)) := by
  rw [pad_length_sub_eight, pad_eq_padBody_append, List.drop_left]

theorem slice_pad_lengthField (m : List Byte) :
    slice (pad m) ((pad m).length - 8) 8 = le32 (lenLo (lenOf m)) ++ le32 (lenHi (lenOf m)) := by
  rw [slice, pad_drop_lengthField, List.take_of_length_le (by simp)]

/-- Byte `k` of a word written least significant byte first (20_memory.md R50). -/
theorem le32_getElem? (v : Word) {k : Nat} (h : k < 4) :
    (le32 v)[k]? = some (BitVec.ofNat 8 (v.toNat / 256 ^ k)) := by
  rw [le32_eq_ofNat]
  interval_cases k <;> simp

/-- Two words, low one first, are the bytes of one 64-bit number (R121). -/
theorem le32_append_le32_getElem? (lo hi : Word) {k : Nat} (h : k < 8) :
    (le32 lo ++ le32 hi)[k]? =
      some (BitVec.ofNat 8 ((lo.toNat + 2 ^ 32 * hi.toNat) / 256 ^ k)) := by
  rcases Nat.lt_or_ge k 4 with hk | hk
  · have hbyte : (lo.toNat + 2 ^ 32 * hi.toNat) / 256 ^ k % 2 ^ 8 = lo.toNat / 256 ^ k % 2 ^ 8 := by
      interval_cases k <;> omega
    rw [List.getElem?_append_left hk, le32_getElem? lo hk]
    exact congrArg some (BitVec.eq_of_toNat_eq (by simpa using hbyte.symm))
  · obtain ⟨j, rfl⟩ := Nat.exists_eq_add_of_le hk
    have hhigh : (lo.toNat + 2 ^ 32 * hi.toNat) / 256 ^ 4 = hi.toNat := by
      have hlo := lo.isLt
      omega
    rw [List.getElem?_append_right (by simp), le32_length, Nat.add_sub_cancel_left,
      le32_getElem? hi (by omega), Nat.pow_add, ← Nat.div_div_eq_div_mul, hhigh]

/-- The last eight bytes are the little-endian bytes of the field's value, whatever the length (R121). -/
theorem pad_lengthField_getElem? (m : List Byte) {k : Nat} (h : k < 8) :
    (pad m)[(pad m).length - 8 + k]? =
      some (BitVec.ofNat 8 (8 * (m.length % 2 ^ 32) / 256 ^ k)) := by
  rw [← List.getElem?_drop, pad_drop_lengthField, le32_append_le32_getElem? _ _ h, lengthField_value]

/-- Settles O35: the field's value is `8 * (L mod 2^32)`, which is `8 * L` just below 2^32. -/
theorem lengthFieldIsTheBitLengthBelow4GiB : Obligations.LengthFieldIsTheBitLengthBelow4GiB := by
  unfold Obligations.LengthFieldIsTheBitLengthBelow4GiB
  intro m
  refine ⟨lenLo_toNat m, lenHi_eq m, slice_pad_lengthField m, fun hshort k hk => ?below,
    fun hlong _ => ?beyond⟩
  case below => rw [pad_lengthField_getElem? m hk, Nat.mod_eq_of_lt hshort]
  case beyond =>
    rw [lengthField_value]
    omega

end Sys2Proof.Machine
end

section
/-! SUPPORT. Where the parts of a padded message stand, its injectivity, and the obligation about both (O37). -/

namespace Sys2Proof.Machine

/-- What `pad` puts after the message. -/
def padTail (m : List Byte) : List Byte :=
  0x80 :: (List.replicate (zeroCount m.length) 0x00 ++
    (le32 (lenLo (lenOf m)) ++ le32 (lenHi (lenOf m))))

theorem pad_eq_append_padTail (m : List Byte) : pad m = m ++ padTail m := by
  simp [pad_split, padTail]

/-- The message is the first `L` bytes (41_padding.md R125). -/
theorem slice_pad_message (m : List Byte) : slice (pad m) 0 m.length = m := by
  rw [slice, List.drop_zero, pad_eq_append_padTail, List.take_left]

theorem pad_getElem?_after_message (m : List Byte) (k : Nat) :
    (pad m)[m.length + k]? = (padTail m)[k]? := by
  rw [pad_eq_append_padTail, List.getElem?_append_right (Nat.le_add_right _ _),
    Nat.add_sub_cancel_left]

theorem padTail_getElem?_zero (m : List Byte) : (padTail m)[0]? = some 0x80 := rfl

theorem padTail_getElem?_zeros (m : List Byte) {k : Nat} (hpos : 1 ≤ k)
    (hle : k ≤ zeroCount m.length) : (padTail m)[k]? = some 0x00 := by
  obtain ⟨j, rfl⟩ := Nat.exists_eq_add_of_le' hpos
  rw [padTail, List.getElem?_cons_succ,
    List.getElem?_append_left (by rw [List.length_replicate]; omega),
    List.getElem?_replicate_of_lt (by omega)]

/-- Messages of one length are read back from the same place (R125). -/
theorem pad_injective_of_length_eq {m n : List Byte} (hlength : m.length = n.length)
    (hpad : pad m = pad n) : m = n := by
  rw [← slice_pad_message m, ← slice_pad_message n, hpad, hlength]

/-- The length field gives the length modulo 2^32 back (R125). -/
theorem length_mod_eq_of_pad_eq {m n : List Byte} (hpad : pad m = pad n) :
    m.length % 2 ^ 32 = n.length % 2 ^ 32 := by
  have hfield : le32 (lenLo (lenOf m)) ++ le32 (lenHi (lenOf m)) =
      le32 (lenLo (lenOf n)) ++ le32 (lenHi (lenOf n)) := by
    rw [← pad_drop_lengthField, ← pad_drop_lengthField, hpad]
  obtain ⟨hlo, hhi⟩ := List.append_inj hfield rfl
  have hvalue := lengthField_value m
  rw [le32_injective hlo, le32_injective hhi, lengthField_value n] at hvalue
  omega

/-- Settles O37: the parts by their places, injectivity by the length field and then the first `L` bytes. -/
theorem paddingMeetsItsPostconditions : Obligations.PaddingMeetsItsPostconditions := by
  unfold Obligations.PaddingMeetsItsPostconditions
  refine ⟨fun m => ?places, fun m n hm hn hpad => ?short,
    fun m n hlength hpad => pad_injective_of_length_eq hlength hpad⟩
  case places =>
    have hlength := pad_length_eq m
    refine ⟨by omega, by omega, slice_pad_message m, ?_, fun k hpos hle => ?_⟩
    · exact (pad_getElem?_after_message m 0).trans (padTail_getElem?_zero m)
    · rw [pad_getElem?_after_message, padTail_getElem?_zeros m hpos hle]
  case short =>
    have hmod := length_mod_eq_of_pad_eq hpad
    rw [Nat.mod_eq_of_lt hm, Nat.mod_eq_of_lt hn] at hmod
    exact pad_injective_of_length_eq hmod hpad

end Sys2Proof.Machine
end

section
/-! SUPPORT. An MD5 row in the words of the spec: its roles by number, and its round's function, word index and rotation amount. -/

namespace Sys2Proof.Machine

/-- A row found in one part of the table is found in the whole table, after the rows before that part. -/
theorem stepRows_getElem?_of_part {pre rows post : List Instr} (htable : stepRows = pre ++ (rows ++ post))
    {j : Nat} (hle : pre.length ≤ j) {i : Instr} (hrow : rows[j - pre.length]? = some i) :
    j < pre.length + rows.length ∧ stepRows[j]? = some i := by
  obtain ⟨hlt, -⟩ := List.getElem?_eq_some_iff.mp hrow
  refine ⟨by omega, ?_⟩
  rw [htable, List.getElem?_append_right hle, List.getElem?_append_left hlt, hrow]

/-- The MD5 step with its registers named by the roles of R145. -/
theorem md5Update_destOf (f : Word → Word → Word → Word) (j : Nat) (w c : Word) (n : Nat) (r : Regs) :
    md5Update f (destOf j) w c n r =
      r.set (role j 0) (r.get (role j 1) +
        rotl32 (r.get (role j 0) + f (r.get (role j 1)) (r.get (role j 2)) (r.get (role j 3)) + w + c) n) := by
  obtain ⟨ha, hb, hc, hd, -⟩ := role_eqs j
  rw [ha, hb, hc, hd, md5Update]

/-- R145 for row `j` of the table, in every state: the register in role `ra` and `step` are written, nothing else. -/
theorem exec_md5Row_roles {j : Nat} (hj : j < 64) {i : Instr} (hrow : stepRows[j]? = some i) (s : State)
    {k : Nat} (hk : (md5K j).val = k) :
    exec i s = .next
      { s with
        regs := s.regs.set (role j 0) (s.regs.get (role j 1) +
          rotl32 (s.regs.get (role j 0) +
            md5Fn j (s.regs.get (role j 1)) (s.regs.get (role j 2)) (s.regs.get (role j 3)) +
            s.w[k]'(hk ▸ (md5K j).isLt) + tableT.getD j 0) (md5S j))
        stepIdx := s.stepIdx + 1 } := by
  subst hk
  rw [exec_md5Row hj hrow, stepped, stepRegs, md5Update_destOf]
  rfl

/-- A row of R144 (and of R175), read by `j mod 4`. -/
theorem shiftOf_eq_getD (s0 s1 s2 s3 j : Nat) : shiftOf s0 s1 s2 s3 j = [s0, s1, s2, s3].getD (j % 4) 0 := by
  have hmod : j % 4 = 0 ∨ j % 4 = 1 ∨ j % 4 = 2 ∨ j % 4 = 3 := by omega
  rcases hmod with h | h | h | h <;> rw [shiftOf, h] <;> rfl

/-- The schedules in round 1 (R143, R144, R146). -/
theorem md5_round1_schedule {j : Nat} (hround : j / 16 = 0) :
    md5Fn j = fnF ∧ (md5K j).val = j ∧ md5S j = [7, 12, 17, 22].getD (j % 4) 0 := by
  refine ⟨by simp only [md5Fn, hround], ?_, by simp only [md5S, hround, shiftOf_eq_getD]⟩
  simp only [md5K, hround, Fin.val_ofNat]
  omega

/-- The schedules in round 2 (R143, R144, R147). -/
theorem md5_round2_schedule {j : Nat} (hround : j / 16 = 1) :
    md5Fn j = fnG5 ∧ (md5K j).val = (5 * (j - 16) + 1) % 16 ∧ md5S j = [5, 9, 14, 20].getD (j % 4) 0 := by
  refine ⟨by simp only [md5Fn, hround], ?_, by simp only [md5S, hround, shiftOf_eq_getD]⟩
  simp only [md5K, hround, Fin.val_ofNat]
  omega

/-- The schedules in round 3 (R143, R144, R148). -/
theorem md5_round3_schedule {j : Nat} (hround : j / 16 = 2) :
    md5Fn j = fnH ∧ (md5K j).val = (3 * (j - 32) + 5) % 16 ∧ md5S j = [4, 11, 16, 23].getD (j % 4) 0 := by
  refine ⟨by simp only [md5Fn, hround], ?_, by simp only [md5S, hround, shiftOf_eq_getD]⟩
  simp only [md5K, hround, Fin.val_ofNat]
  omega

/-- The schedules in round 4 (R143, R144, R149). -/
theorem md5_round4_schedule {j : Nat} (hround : j / 16 = 3) :
    md5Fn j = fnI ∧ (md5K j).val = 7 * (j - 48) % 16 ∧ md5S j = [6, 10, 15, 21].getD (j % 4) 0 := by
  refine ⟨by simp only [md5Fn, hround], ?_, by simp only [md5S, hround, shiftOf_eq_getD]⟩
  simp only [md5K, hround, Fin.val_ofNat]
  omega

/-- R146's worked example: step 0 on the initial values, with the first word of the block that pads the empty message. -/
theorem exec_md5Step0_example {s : State} (hregs : s.regs = ⟨0x67452301, 0xefcdab89, 0x98badcfe, 0x10325476⟩)
    (hw : s.w[0] = 0x00000080) :
    exec .md5Step0 s = .next
      { s with regs := ⟨0xa5202774, 0xefcdab89, 0x98badcfe, 0x10325476⟩, stepIdx := s.stepIdx + 1 } := by
  rw [exec_md5Row_roles (j := 0) (by decide) rfl s (k := 0) rfl, hregs, hw]
  rfl

/-- Settles O16: rows 0 to 15 of the table by the schedules of round 1, and the worked example. -/
theorem md5Round1RowsFollowTheirRule : Obligations.Md5Round1RowsFollowTheirRule := by
  unfold Obligations.Md5Round1RowsFollowTheirRule
  refine ⟨fun j hj i s hrow => ?_, fun s hregs hw => exec_md5Step0_example hregs hw⟩
  obtain ⟨-, htable⟩ := stepRows_getElem?_of_part (pre := []) (rows := md5Round1Rows) rfl (Nat.zero_le j) hrow
  obtain ⟨hf, hk, hn⟩ := md5_round1_schedule (j := j) (by omega)
  rw [exec_md5Row_roles (by omega) htable s hk, hf, hn]

/-- Settles O17: rows 16 to 31 of the table by the schedules of round 2. -/
theorem md5Round2RowsFollowTheirRule : Obligations.Md5Round2RowsFollowTheirRule := by
  unfold Obligations.Md5Round2RowsFollowTheirRule
  intro j i s hle hrow
  obtain ⟨hlt, htable⟩ := stepRows_getElem?_of_part
    (pre := md5Round1Rows) (rows := md5Round2Rows) rfl hle hrow
  have hend : j < 32 := hlt
  obtain ⟨hf, hk, hn⟩ := md5_round2_schedule (j := j) (by omega)
  rw [exec_md5Row_roles (by omega) htable s hk, hf, hn]

/-- Settles O18: rows 32 to 47 of the table by the schedules of round 3. -/
theorem md5Round3RowsFollowTheirRule : Obligations.Md5Round3RowsFollowTheirRule := by
  unfold Obligations.Md5Round3RowsFollowTheirRule
  intro j i s hle hrow
  obtain ⟨hlt, htable⟩ := stepRows_getElem?_of_part
    (pre := md5Round1Rows ++ md5Round2Rows) (rows := md5Round3Rows) rfl hle hrow
  have hend : j < 48 := hlt
  obtain ⟨hf, hk, hn⟩ := md5_round3_schedule (j := j) (by omega)
  rw [exec_md5Row_roles (by omega) htable s hk, hf, hn]

/-- Settles O19: rows 48 to 63 of the table by the schedules of round 4. -/
theorem md5Round4RowsFollowTheirRule : Obligations.Md5Round4RowsFollowTheirRule := by
  unfold Obligations.Md5Round4RowsFollowTheirRule
  intro j i s hle hrow
  obtain ⟨hlt, htable⟩ := stepRows_getElem?_of_part
    (pre := md5Round1Rows ++ md5Round2Rows ++ md5Round3Rows) (rows := md5Round4Rows) rfl hle hrow
  have hend : j < 64 := hlt
  obtain ⟨hf, hk, hn⟩ := md5_round4_schedule (j := j) (by omega)
  rw [exec_md5Row_roles (by omega) htable s hk, hf, hn]

end Sys2Proof.Machine
end

section
/-! SUPPORT. An MD4 row in the words of the spec: its roles by number, and its round's function, word index, constant and rotation
amount. -/

namespace Sys2Proof.Machine

/-- A row found in a part of the MD4 half of the table, by its step number: the selectors of that half start at 64 (R77). -/
theorem stepRows_getElem?_of_md4Part {pre rows post : List Instr} (htable : stepRows = pre ++ (rows ++ post))
    {first j : Nat} (hpre : pre.length = 64 + first) (hle : first ≤ j) {i : Instr} (hrow : rows[j - first]? = some i) :
    j < first + rows.length ∧ stepRows[64 + j]? = some i := by
  have hplace : 64 + j - pre.length = j - first := by omega
  obtain ⟨hlt, hfound⟩ := stepRows_getElem?_of_part (j := 64 + j) htable (by omega) (hplace ▸ hrow)
  exact ⟨by omega, hfound⟩

/-- The MD4 step (R176) with its registers named by the roles of R145. -/
theorem md4Update_destOf (f : Word → Word → Word → Word) (j : Nat) (w c : Word) (n : Nat) (r : Regs) :
    md4Update f (destOf j) w c n r =
      r.set (role j 0)
        (rotl32 (r.get (role j 0) + f (r.get (role j 1)) (r.get (role j 2)) (r.get (role j 3)) + w + c) n) := by
  obtain ⟨ha, hb, hc, hd, -⟩ := role_eqs j
  rw [ha, hb, hc, hd, md4Update]

/-- R176 for MD4 row `j` of the table, in every state: the register in role `ra` and `step` are written, nothing else. -/
theorem exec_md4Row_roles {j : Nat} (hj : j < 48) {i : Instr} (hrow : stepRows[64 + j]? = some i) (s : State)
    {k : Nat} (hk : (md4K j).val = k) :
    exec i s = .next
      { s with
        regs := s.regs.set (role j 0)
          (rotl32 (s.regs.get (role j 0) +
            md4Fn j (s.regs.get (role j 1)) (s.regs.get (role j 2)) (s.regs.get (role j 3)) +
            s.w[k]'(hk ▸ (md4K j).isLt) + md4C j) (md4S j))
        stepIdx := s.stepIdx + 1 } := by
  subst hk
  rw [exec_md4Row hj hrow, stepped, stepRegs, md4Update_destOf]
  rfl

/-- `reverse4` is the reversal of the bits of a 4-bit index (R174). -/
theorem reverse4_toNat (x : BitVec 4) : reverse4 x.toNat = x.reverse.toNat := by
  revert x
  decide

/-- The schedules in round 1 (R173, R174, R175, R177). -/
theorem md4_round1_schedule {j : Nat} (hround : j / 16 = 0) :
    md4Fn j = fnF ∧ (md4K j).val = j ∧ md4C j = 0 ∧ md4S j = [3, 7, 11, 19].getD (j % 4) 0 := by
  refine ⟨by simp only [md4Fn, hround], ?_, by simp only [md4C, hround], by simp only [md4S, hround, shiftOf_eq_getD]⟩
  simp only [md4K, hround, Fin.val_ofNat]
  omega

/-- The schedules in round 2 (R173, R174, R175, R178). -/
theorem md4_round2_schedule {j : Nat} (hround : j / 16 = 1) :
    md4Fn j = fnG4 ∧ (md4K j).val = (4 * ((j - 16) % 4) + (j - 16) / 4) % 16 ∧ md4C j = 0x5a827999 ∧
      md4S j = [3, 5, 9, 13].getD (j % 4) 0 := by
  refine ⟨by simp only [md4Fn, hround], ?_, by simp only [md4C, hround], by simp only [md4S, hround, shiftOf_eq_getD]⟩
  have hindex : j % 16 = j - 16 := by omega
  simp only [md4K, hround, hindex, Fin.val_ofNat]

/-- The schedules in round 3 (R173, R174, R175, R179). -/
theorem md4_round3_schedule {j : Nat} (hround : j / 16 = 2) :
    md4Fn j = fnH ∧ (md4K j).val = (BitVec.ofNat 4 (j - 32)).reverse.toNat ∧ md4C j = 0x6ed9eba1 ∧
      md4S j = [3, 9, 11, 15].getD (j % 4) 0 := by
  refine ⟨by simp only [md4Fn, hround], ?_, by simp only [md4C, hround], by simp only [md4S, hround, shiftOf_eq_getD]⟩
  have hindex : j % 16 = (BitVec.ofNat 4 (j - 32)).toNat := by rw [BitVec.toNat_ofNat]; omega
  simp only [md4K, hround, Fin.val_ofNat]
  rw [hindex, reverse4_toNat, Nat.mod_eq_of_lt (BitVec.isLt _)]

/-- R177's worked example: step 0 on the initial values, with the first word of the block that pads `abc`. -/
theorem exec_md4Step0_example {s : State} (hregs : s.regs = ⟨0x67452301, 0xefcdab89, 0x98badcfe, 0x10325476⟩)
    (hw : s.w[0] = 0x80636261) :
    exec .md4Step0 s = .next
      { s with regs := ⟨0x031b1304, 0xefcdab89, 0x98badcfe, 0x10325476⟩, stepIdx := s.stepIdx + 1 } := by
  rw [exec_md4Row_roles (j := 0) (by decide) rfl s (k := 0) rfl, hregs, hw]
  rfl

/-- Settles O20: MD4 rows 0 to 15 of the table by the schedules of round 1, and the worked example. -/
theorem md4Round1RowsFollowTheirRule : Obligations.Md4Round1RowsFollowTheirRule := by
  unfold Obligations.Md4Round1RowsFollowTheirRule
  refine ⟨fun j hj i s hrow => ?_, fun s hregs hw => exec_md4Step0_example hregs hw⟩
  obtain ⟨-, htable⟩ := stepRows_getElem?_of_md4Part
    (pre := md5Round1Rows ++ md5Round2Rows ++ md5Round3Rows ++ md5Round4Rows) (rows := md4Round1Rows)
    rfl (first := 0) rfl (Nat.zero_le j) hrow
  obtain ⟨hf, hk, hc, hn⟩ := md4_round1_schedule (j := j) (by omega)
  rw [exec_md4Row_roles (by omega) htable s hk, hf, hc, hn, add_zero]

/-- Settles O21: MD4 rows 16 to 31 of the table by the schedules of round 2. -/
theorem md4Round2RowsFollowTheirRule : Obligations.Md4Round2RowsFollowTheirRule := by
  unfold Obligations.Md4Round2RowsFollowTheirRule
  intro j i s hle hrow
  obtain ⟨hlt, htable⟩ := stepRows_getElem?_of_md4Part
    (pre := md5Round1Rows ++ md5Round2Rows ++ md5Round3Rows ++ md5Round4Rows ++ md4Round1Rows) (rows := md4Round2Rows)
    rfl rfl hle hrow
  have hend : j < 32 := hlt
  obtain ⟨hf, hk, hc, hn⟩ := md4_round2_schedule (j := j) (by omega)
  rw [exec_md4Row_roles (by omega) htable s hk, hf, hc, hn]

/-- Settles O22: MD4 rows 32 to 47 of the table by the schedules of round 3. -/
theorem md4Round3RowsFollowTheirRule : Obligations.Md4Round3RowsFollowTheirRule := by
  unfold Obligations.Md4Round3RowsFollowTheirRule
  intro j i s hle hrow
  obtain ⟨hlt, htable⟩ := stepRows_getElem?_of_md4Part
    (pre := md5Round1Rows ++ md5Round2Rows ++ md5Round3Rows ++ md5Round4Rows ++ md4Round1Rows ++ md4Round2Rows)
    (rows := md4Round3Rows) (post := []) rfl rfl hle hrow
  have hend : j < 48 := hlt
  obtain ⟨hf, hk, hc, hn⟩ := md4_round3_schedule (j := j) (by omega)
  rw [exec_md4Row_roles (by omega) htable s hk, hf, hc, hn]
  rfl

end Sys2Proof.Machine
end

section
/-! SUPPORT. The digest byte by byte, and the obligation about it (O39). -/

namespace Sys2Proof.Machine

/-- A write leaves the bytes outside its four as they are (00_scope.md R17). -/
theorem memWrite_getElem_outside (buf : Vector Byte 16) (addr : Fin 13) (v : Word) {k : Nat} (hk : k < 16)
    (houtside : k < addr.val ∨ addr.val + 4 ≤ k) : (memWrite buf addr v)[k] = buf[k] := by
  unfold memWrite
  iterate 4 rw [Vector.getElem_set_ne _ hk (by omega)]

/-- Byte `i` of a write is bits `8i+7 : 8i` of the word (00_scope.md R17). -/
theorem memWrite_getElem_inside (buf : Vector Byte 16) (addr : Fin 13) (v : Word) {i : Nat} (hi : i < 4)
    (hk : addr.val + i < 16) : (memWrite buf addr v)[addr.val + i] = (v >>> (8 * i)).setWidth 8 := by
  rw [BitVec.setWidth_ushiftRight_eq_extractLsb]
  unfold memWrite
  match i, hi with
  | 0, _ | 1, _ | 2, _ | 3, _ => simp

/-- Register `r` is written at `4r`, and no other write reaches its four bytes (44_digest_output.md R200). -/
theorem serialise_getElem (x : Regs) {r i : Nat} (h : 4 * r + i < 16) (hi : i < 4) :
    (serialise x)[4 * r + i] = ((x.get (xReg r)) >>> (8 * i)).setWidth 8 := by
  have hr : r < 4 := by omega
  unfold serialise
  match r, hr with
  | 0, _ =>
    iterate 3 rw [memWrite_getElem_outside _ _ _ h (by simp; omega)]
    exact memWrite_getElem_inside _ 0 x.a hi h
  | 1, _ =>
    iterate 2 rw [memWrite_getElem_outside _ _ _ h (by simp; omega)]
    exact memWrite_getElem_inside _ 4 x.b hi h
  | 2, _ =>
    rw [memWrite_getElem_outside _ _ _ h (by simp; omega)]
    exact memWrite_getElem_inside _ 8 x.c hi h
  | 3, _ => exact memWrite_getElem_inside _ 12 x.d hi h

/-- Settles O39: by the four writes of `serialise`, one for each register. -/
theorem digestBytesAreTheRegistersLittleEndian : Obligations.DigestBytesAreTheRegistersLittleEndian := by
  unfold Obligations.DigestBytesAreTheRegistersLittleEndian
  exact fun x _ _ h hi => serialise_getElem x h hi

end Sys2Proof.Machine
end

section
/-! SUPPORT. A digest byte by its two nibbles, and the obligations about the hex rendering (O40, O41). -/

namespace Sys2Proof.Machine

/-- The high nibble of a byte as a number (20_memory.md R55). -/
theorem toNat_highNibble (b : Byte) : (b.extractLsb' 4 4).toNat = b.toNat / 16 := by
  have hb := b.isLt
  rw [BitVec.extractLsb'_toNat, Nat.shiftRight_eq_div_pow]
  omega

/-- The low nibble of a byte as a number (20_memory.md R55). -/
theorem toNat_lowNibble (b : Byte) : (b.extractLsb' 0 4).toNat = b.toNat % 16 := by
  rw [BitVec.extractLsb'_toNat, Nat.shiftRight_zero]

theorem byte_eq_of_nibbles_eq {b c : Byte} (hhigh : b.extractLsb' 4 4 = c.extractLsb' 4 4)
    (hlow : b.extractLsb' 0 4 = c.extractLsb' 0 4) : b = c := by
  have hdiv := congrArg BitVec.toNat hhigh
  have hmod := congrArg BitVec.toNat hlow
  rw [toNat_highNibble, toNat_highNibble] at hdiv
  rw [toNat_lowNibble, toNat_lowNibble] at hmod
  exact BitVec.eq_of_toNat_eq (by omega)

/-- A digest byte can be read back from its two characters (44_digest_output.md R203). -/
theorem digestByte_eq_of_hexOf_eq {d e : Vector Byte 16} (hhex : hexOf d = hexOf e) {i : Nat} (h : i < 16) :
    d[i] = e[i] := by
  have hfirst : (hexOf d)[2 * i] = (hexOf e)[2 * i] := by rw [hhex]
  have hsecond : (hexOf d)[2 * i + 1] = (hexOf e)[2 * i + 1] := by rw [hhex]
  rw [hexOf_even d i h, hexOf_even e i h] at hfirst
  rw [hexOf_odd d i h, hexOf_odd e i h] at hsecond
  exact byte_eq_of_nibbles_eq (hexDigit_injective _ _ hfirst) (hexDigit_injective _ _ hsecond)

/-- Settles O40: the even character is the high nibble's digit, the odd one the low nibble's. -/
theorem hexIsTwoLowercaseDigitsPerByte : Obligations.HexIsTwoLowercaseDigitsPerByte := by
  unfold Obligations.HexIsTwoLowercaseDigitsPerByte
  refine fun dig i h => ⟨?high, ?low⟩
  case high => rw [hexOf_even dig i h, hexDigit_toNat, toNat_highNibble]
  case low => rw [hexOf_odd dig i h, hexDigit_toNat, toNat_lowNibble]

/-- Settles O41: equal strings have equal characters, and each byte is read back from its two. -/
theorem hexDeterminesTheDigest : Obligations.HexDeterminesTheDigest := by
  unfold Obligations.HexDeterminesTheDigest
  exact fun _ _ hhex => Vector.ext fun _ h => digestByte_eq_of_hexOf_eq hhex h

end Sys2Proof.Machine
end

section
/-! SUPPORT. The sequencer's invariant phase by phase, the run of one operation to its end under it, and the obligation about
that run (O54). -/

namespace Sys2Proof.Machine

/-! What the invariant says in each phase. -/

theorem sequencerInv_idle {s : State} (hp : s.phase = .idle) : SequencerInv s ↔ s = s.released := by
  rw [SequencerInv, hp]

theorem sequencerInv_encode {s : State} (hp : s.phase = .encode) :
    SequencerInv s ↔ opSrc s.op = true ∧
      admits s.params (encodeString s.params.loneSurr (opAlg s.op) s.str).length = true := by
  rw [SequencerInv, hp]

theorem sequencerInv_pad {s : State} (hp : s.phase = .pad) :
    SequencerInv s ↔ opEncOnly s.op = false ∧ Formed s := by
  rw [SequencerInv, hp]

theorem sequencerInv_init {s : State} (hp : s.phase = .init) : SequencerInv s ↔ Padded s := by
  rw [SequencerInv, hp]

theorem sequencerInv_load {s : State} (hp : s.phase = .load) :
    SequencerInv s ↔ Padded s ∧ s.blk < numBlocks s.pbs ∧ s.regs = chain (opAlg s.op) s.pbs s.blk := by
  rw [SequencerInv, hp]

theorem sequencerInv_step {s : State} (hp : s.phase = .step) :
    SequencerInv s ↔ InBlock s ∧ s.stepIdx < nSteps (opAlg s.op) ∧
      s.regs = stepsRegs (opAlg s.op) s.w s.saved s.stepIdx := by
  rw [SequencerInv, hp]

theorem sequencerInv_feed {s : State} (hp : s.phase = .feed) :
    SequencerInv s ↔ InBlock s ∧ s.stepIdx = nSteps (opAlg s.op) ∧
      s.regs = stepsRegs (opAlg s.op) s.w s.saved s.stepIdx := by
  rw [SequencerInv, hp]

theorem sequencerInv_out_encOnly {s : State} (hp : s.phase = .out) (he : opEncOnly s.op = true) :
    SequencerInv s ↔ opSrc s.op = true ∧ Formed s ∧ s.encout = s.msg := by
  rw [SequencerInv, hp]
  exact iff_of_eq (if_pos he)

theorem sequencerInv_out_digest {s : State} (hp : s.phase = .out) (he : opEncOnly s.op = false) :
    SequencerInv s ↔ Padded s ∧ s.blk = numBlocks s.pbs ∧ s.regs = chain (opAlg s.op) s.pbs s.blk := by
  rw [SequencerInv, hp]
  exact iff_of_eq (if_neg (by rw [he]; decide))

/-! Each phase leads from its own part of the invariant to that of the next phase. -/

theorem encodePhase_keeps_inv {s : State} (hp : s.phase = .encode) (hi : SequencerInv s) :
    SequencerInv (encodePhase s) := by
  obtain ⟨hsrc, hadmits⟩ := (sequencerInv_encode hp).mp hi
  cases he : opEncOnly s.op with
  | false =>
    rw [encodePhase_of_digest he, sequencerInv_pad rfl]
    exact ⟨he, fun _ => rfl, hadmits⟩
  | true =>
    rw [encodePhase_of_encOnly he]
    refine (sequencerInv_out_encOnly rfl ?_).mpr ⟨hsrc, ⟨fun _ => rfl, hadmits⟩, rfl⟩
    exact he

theorem padPhase_keeps_inv {s : State} (hp : s.phase = .pad) (hi : SequencerInv s) : SequencerInv (padPhase s) := by
  obtain ⟨he, hformed⟩ := (sequencerInv_pad hp).mp hi
  exact (sequencerInv_init rfl).mpr ⟨he, hformed, rfl, rfl⟩

theorem initPhase_keeps_inv {s : State} (hp : s.phase = .init) (hi : SequencerInv s) : SequencerInv (initPhase s) := by
  obtain ⟨he, hformed, hlen, hpbs⟩ := (sequencerInv_init hp).mp hi
  have hpos : 0 < numBlocks s.pbs := hpbs ▸ numBlocks_pad_pos s.msg
  exact (sequencerInv_load rfl).mpr ⟨⟨he, hformed, hlen, hpbs⟩, hpos, rfl⟩

theorem loadPhase_keeps_inv {s : State} (hp : s.phase = .load) (hi : SequencerInv s) : SequencerInv (loadPhase s) := by
  obtain ⟨hpadded, hblk, hregs⟩ := (sequencerInv_load hp).mp hi
  exact (sequencerInv_step rfl).mpr ⟨⟨hpadded, hblk, rfl, hregs⟩, nSteps_pos _, rfl⟩

/-- Micro-step `j` carries the registers after `j` steps to those after `j + 1`; the last one leaves STEP (45_sequencer.md R217). -/
theorem microStep_keeps_inv {s : State} (hp : s.phase = .step) (hi : SequencerInv s) :
    SequencerInv (afterMicroStep (stepped (opAlg s.op) s.stepIdx s)) := by
  obtain ⟨hblock, hlt, hregs⟩ := (sequencerInv_step hp).mp hi
  have hnext : stepRegs (opAlg s.op) s.stepIdx s.w s.regs =
      stepsRegs (opAlg s.op) s.w s.saved (s.stepIdx + 1) := by rw [hregs]; rfl
  have hphase := afterMicroStep_stepped_phase (opAlg s.op) s.stepIdx s
  by_cases hlast : s.stepIdx + 1 = nSteps (opAlg s.op)
  · rw [if_pos hlast] at hphase
    exact (sequencerInv_feed hphase).mpr ⟨hblock, hlast, hnext⟩
  · rw [if_neg hlast] at hphase
    exact (sequencerInv_step hphase).mpr ⟨hblock, Nat.lt_of_le_of_ne hlt hlast, hnext⟩

/-- The feed-forward completes the block function, so the registers are the chaining value after one block more (R218). -/
theorem feedPhase_keeps_inv {s : State} (hp : s.phase = .feed) (hi : SequencerInv s) : SequencerInv (feedPhase s) := by
  obtain ⟨⟨hpadded, hlt, hw, hsaved⟩, hidx, hregs⟩ := (sequencerInv_feed hp).mp hi
  have hchain : s.regs.add s.saved = chain (opAlg s.op) s.pbs (s.blk + 1) := by
    rw [chain, blockRegs, ← hw, ← hsaved, ← hidx, ← hregs]
  have hphase := feedPhase_phase s
  by_cases hlast : s.blk + 1 = numBlocks s.pbs
  · rw [if_pos hlast] at hphase
    exact (sequencerInv_out_digest hphase hpadded.1).mpr ⟨hpadded, hlast, hchain⟩
  · rw [if_neg hlast] at hphase
    exact (sequencerInv_load hphase).mpr ⟨hpadded, Nat.lt_of_le_of_ne hlt hlast, hchain⟩

theorem outPhase_keeps_inv (s : State) : SequencerInv (outPhase s) :=
  (sequencerInv_idle (outPhase_phase s)).mpr (outPhase_released s).symm

/-- A busy state that meets the invariant goes on, to a state that meets it. -/
theorem busy_step_keeps_inv {s : State} (hi : SequencerInv s) (hr : s.resetApplied = false) (hb : s.busy = true) :
    ∃ t, step s = .next t ∧ SequencerInv t := by
  cases hp : s.phase with
  | idle => exact absurd hp ((State.busy_iff s).mp hb)
  | encode => exact ⟨_, step_encode hr hp, encodePhase_keeps_inv hp hi⟩
  | pad => exact ⟨_, step_pad hr hp, padPhase_keeps_inv hp hi⟩
  | init => exact ⟨_, step_init hr hp, initPhase_keeps_inv hp hi⟩
  | load =>
    obtain ⟨-, hblk, -⟩ := (sequencerInv_load hp).mp hi
    exact ⟨_, (step_load hr hp).trans (if_pos hblk), loadPhase_keeps_inv hp hi⟩
  | step =>
    obtain ⟨-, hlt, -⟩ := (sequencerInv_step hp).mp hi
    exact ⟨_, step_step hr hp hlt, microStep_keeps_inv hp hi⟩
  | feed => exact ⟨_, step_feed hr hp, feedPhase_keeps_inv hp hi⟩
  | out => exact ⟨_, step_out hr hp, outPhase_keeps_inv s⟩

/-! One operation from its acceptance to its end. -/

/-- The state in which a response has been delivered is the state after reset, but for the parameters and the
requester's side (45_sequencer.md R219, 10_state.md R35). -/
theorem State.respond_eq (x : Response) (s : State) :
    s.respond x = { State.reset with
      params := s.params, offered := s.offered, delivered := s.delivered ++ [x], resetApplied := s.resetApplied } :=
  rfl

/-- What an operation ends in depends on its command, its message and the items it leaves alone. -/
theorem respond_expected_congr {s t : State} (hmessage : t.message = s.message) (hop : t.op = s.op)
    (hparams : t.params = s.params) (hoffered : t.offered = s.offered) (hdelivered : t.delivered = s.delivered)
    (hreset : t.resetApplied = s.resetApplied) : t.respond t.expected = s.respond s.expected := by
  have hexpected : t.expected = s.expected := by rw [State.expected, State.expected, hop, hmessage]
  rw [State.respond_eq, State.respond_eq, hexpected, hparams, hoffered, hdelivered, hreset]

/-- An operation is running in `s`; it has `n` phase executions left and ends in `e`. -/
structure Running (e : State) (n : Nat) (s : State) : Prop where
  inv : SequencerInv s
  notReset : s.resetApplied = false
  busy : s.busy = true
  left : remaining s = n
  ends : s.respond s.expected = e

theorem remaining_pos {s : State} (hb : s.busy = true) : 0 < remaining s := by
  have hne := (State.busy_iff s).mp hb
  cases hp : s.phase with
  | idle => exact absurd hp hne
  | encode =>
    simp only [remaining, hp]
    split <;> omega
  | pad | init =>
    simp only [remaining, hp, compressSteps]
    omega
  | load | step | feed | out =>
    simp only [remaining, hp]
    omega

/-- Every phase execution but the last leaves the operation running, with one execution fewer left. -/
theorem Running.phase_next {e s : State} {n : Nat} (h : Running e (n + 2) s) :
    ∃ t, step s = .next t ∧ Running e (n + 1) t := by
  obtain ⟨hi, hr, hb, hleft, hends⟩ := h
  obtain ⟨t, hstep, hinv⟩ := busy_step_keeps_inv hi hr hb
  rcases busy_step_cases hi hr hb hstep with
    ⟨hbusy, hrem, hmessage, hop, hparams, hoffered, hdelivered, hreset⟩ | ⟨hone, -⟩
  · have hends' := respond_expected_congr hmessage hop hparams hoffered hdelivered (hreset.trans hr.symm)
    exact ⟨t, hstep, hinv, hreset, hbusy, by omega, hends'.trans hends⟩
  · omega

/-- The last phase execution ends the operation. -/
theorem Running.phase_last {e s : State} (h : Running e 1 s) : step s = .next e := by
  obtain ⟨hi, hr, hb, hleft, hends⟩ := h
  obtain ⟨t, hstep, -⟩ := busy_step_keeps_inv hi hr hb
  rcases busy_step_cases hi hr hb hstep with ⟨hbusy, hrem, -⟩ | ⟨-, rfl⟩
  · have hpos := remaining_pos hbusy
    omega
  · rw [hstep, hends]

/-- After `k` phase executions, fewer than there are left, the operation is still running. -/
theorem Running.run {e s : State} {n k : Nat} (h : Running e n s) (hk : k < n) :
    ∃ t, Host.Core.run core k s = .next t ∧ Running e (n - k) t := by
  induction k generalizing s n with
  | zero => exact ⟨s, rfl, h⟩
  | succ k ih =>
    obtain ⟨m, rfl⟩ : ∃ m, n = m + 2 := ⟨n - 2, by omega⟩
    obtain ⟨t, hstep, ht⟩ := h.phase_next
    obtain ⟨u, hrun, hu⟩ := ih ht (by omega)
    exact ⟨u, (run_next core hstep k).trans hrun, by rwa [show m + 2 - (k + 1) = m + 1 - k by omega]⟩

/-- The operation ends after the phase executions it has left (45_sequencer.md R221). -/
theorem Running.run_to_end {e s : State} {n : Nat} (h : Running e n s) : Host.Core.run core n s = .next e := by
  have hpos : 0 < n := h.left ▸ remaining_pos h.busy
  obtain ⟨m, rfl⟩ := Nat.exists_eq_add_of_le' hpos
  obtain ⟨t, hrun, ht⟩ := h.run (Nat.lt_succ_self m)
  rw [Nat.add_sub_cancel_left] at ht
  rw [run_trans core hrun]
  exact run_next core ht.phase_last 0

/-- What the requester sees of a running operation: nothing delivered, and its other offers waiting (R212). -/
theorem Running.requester_side {e s : State} {n : Nat} (h : Running e n s) {d : List Response} {x : Response}
    (hd : e.delivered = d ++ [x]) : s.delivered = d ∧ s.offered = e.offered := by
  obtain ⟨-, -, -, -, rfl⟩ := h
  exact ⟨(List.append_inj' hd rfl).1, rfl⟩

/-- An accepted request is a running operation with the number of phase executions of R221 before it. -/
theorem accept_running {s : State} {r : Request} {rest : List Request} (h : Ready s)
    (hg : s.params.granularity = .phase) (hw : r.wellFormed s.params = true) (ho : s.offered = r :: rest) :
    ∃ t, step s = .next t ∧ Running
      { State.reset with params := s.params, offered := rest, delivered := s.delivered ++ [responseTo s.params r] }
      (opSteps s.params r) t := by
  obtain ⟨t, hstep, hinv, hreset, hbusy, hoffered, hdelivered, hparams, hexpected, hleft⟩ := accept_step h hw hg ho
  refine ⟨t, hstep, hinv, hreset, hbusy, hleft, ?_⟩
  rw [State.respond_eq, hexpected, hparams, hoffered, hdelivered, hreset]
  rfl

/-- Settles O54: the acceptance starts the operation, and the invariant carries it to its end, one phase execution at a time. -/
theorem operationTakesItsStepsAndDeliversItsResponse : Obligations.OperationTakesItsStepsAndDeliversItsResponse := by
  unfold Obligations.OperationTakesItsStepsAndDeliversItsResponse
  intro s r rest hready hg hw ho
  obtain ⟨t, hstep, hrunning⟩ := accept_running hready hg hw ho
  refine ⟨fun k hk => ?running, (run_next core hstep _).trans hrunning.run_to_end⟩
  case running =>
    obtain ⟨u, hrun, hu⟩ := hrunning.run hk
    obtain ⟨hdelivered, hoffered⟩ := hu.requester_side rfl
    exact ⟨u, (run_next core hstep k).trans hrun, hu.busy, hdelivered, hoffered⟩

end Sys2Proof.Machine
end

section
/-! SUPPORT. The transition of each phase in the words of its rule, and the obligations about them (O42 to O45). -/

namespace Sys2Proof.Machine

/-- `ALG` selects the encoder (45_sequencer.md R214). -/
theorem encodeString_opAlg (p : LoneSurr) (op : BitVec 3) (u : List CodeUnit) :
    encodeString p (opAlg op) u = if op.getLsbD 0 then utf16le u else utf8 p u := by
  unfold opAlg
  split <;> rfl

/-- Block `i` exists exactly when its 64 bytes lie within the stream (41_padding.md R123). -/
theorem lt_numBlocks_iff (pbs : List Byte) (i : Nat) : i < numBlocks pbs ↔ 64 * i + 64 ≤ pbs.length := by
  unfold numBlocks
  omega

/-- Settles O42: the transitions of ENCODE and PAD, with the encoder that `ALG` selects. -/
theorem encodeAndPadPhases : Obligations.EncodeAndPadPhases := by
  unfold Obligations.EncodeAndPadPhases
  intro s hr
  refine ⟨fun hp => ⟨_, rfl, ?encode⟩, fun hp => step_pad hr hp⟩
  case encode =>
    rw [step_encode hr hp, ← encodeString_opAlg]
    rfl

/-- Settles O43: the transitions of INIT and of LOAD, which is not stuck on a block within the stream. -/
theorem initAndLoadPhases : Obligations.InitAndLoadPhases := by
  unfold Obligations.InitAndLoadPhases
  intro s hr
  refine ⟨fun hp => step_init hr hp, fun hp hwithin => ?load⟩
  case load =>
    rw [step_load hr hp, if_pos ((lt_numBlocks_iff s.pbs s.blk).mpr hwithin)]
    rfl

/-- Settles O44: the transition of FEED. -/
theorem feedPhaseAddsTheSavedRegisters : Obligations.FeedPhaseAddsTheSavedRegisters := by
  unfold Obligations.FeedPhaseAddsTheSavedRegisters
  exact fun s hr hp => step_feed hr hp

/-- Settles O45: the transition of OUT for each kind of command; an encode-only one delivers `MSG`, which is what `ENCOUT` holds. -/
theorem outPhaseDeliversAndClears : Obligations.OutPhaseDeliversAndClears := by
  unfold Obligations.OutPhaseDeliversAndClears
  intro s hr hp hencout
  cases he : s.op.getLsbD 2 with
  | false =>
    rw [step_out hr hp, outPhase_of_digest he, State.respond_eq, hr]
    rfl
  | true =>
    rw [step_out hr hp, outPhase_of_encOnly he, State.respond_eq, hr, hencout he]
    rfl

end Sys2Proof.Machine
end

section
/-! SUPPORT. What a reset leaves of the instance, and the obligation about it (O8). -/

namespace Sys2Proof.Machine

/-- The state a reset leaves is the state after reset, but for the parameters and the requester's side
(70_reset_and_hazards.md R260, R261). -/
theorem State.applyReset_eq (s : State) :
    s.applyReset =
      { State.reset with params := s.params, offered := s.offered, delivered := s.delivered } :=
  rfl

/-- An instance to which reset has been applied is idle. -/
theorem State.applyReset_not_busy (s : State) : s.applyReset.busy = false :=
  (State.not_busy_iff _).mpr s.applyReset_phase

/-- Settles O8: a step under reset applies it in whatever phase the instance is, and what it leaves is idle, has
delivered nothing more and is otherwise the state after reset. -/
theorem resetAbandonsTheOperation : Obligations.ResetAbandonsTheOperation := by
  unfold Obligations.ResetAbandonsTheOperation
  intro s hreset
  exact ⟨s.applyReset, step_of_reset hreset, s.applyReset_not_busy, s.applyReset_delivered, s.applyReset_eq⟩

end Sys2Proof.Machine
end

section
/-! SUPPORT. Decoding as the inverse of encoding, what decodes, and the obligations about both (O1, O2, O4). -/

namespace Sys2Proof

/-- Every instruction's code decodes to it, row by row of the table and for every operand of the six commands
(30_encoding.md R76, R77). -/
theorem decode_encode (i : Instr) : decode (encode i) = .ok i := by
  cases i <;> rfl

/-- A decoded request is the code of the command it decodes to (R76). -/
theorem encode_of_decodeRequest {r : Request} {i : Instr} (h : decodeRequest r = .ok i) : encode i = .cmd r := by
  rcases decodeRequest_ok_cases h with ⟨m, rfl, rfl⟩ | ⟨m, rfl, rfl⟩ | ⟨u, rfl, rfl⟩ | ⟨u, rfl, rfl⟩ | ⟨u, rfl, rfl⟩ |
    ⟨u, rfl, rfl⟩ <;> rfl

theorem decode_eq_ok_iff (c : Code) (i : Instr) : decode c = .ok i ↔ encode i = c := by
  constructor
  · intro h
    cases c with
    | cmd r => exact encode_of_decodeRequest h
    | ustep sel => exact encode_of_decodeStep h
  · rintro rfl
    exact decode_encode i

theorem decodeRequest_of_encode {r : Request} {i : Instr} (h : encode i = .cmd r) : decodeRequest r = .ok i :=
  (decode_eq_ok_iff (.cmd r) i).mpr h

/-- Apart from its bound on messages, an instance without one accepts what is defined and has an operand of its type. -/
theorem Request.wellFormed_default_iff (r : Request) :
    r.wellFormed Params.default = true ↔ r.opDefined = true ∧ r.operandFits = true := by
  simp [Request.wellFormed, Machine.admits, Params.default]

/-- The requests that decode (R76, R80): the well-formed ones of an instance without a bound. -/
theorem decodeRequest_isOk_iff (r : Request) :
    (∃ i, decodeRequest r = .ok i) ↔ r.opDefined = true ∧ r.operandFits = true := by
  rw [← Request.wellFormed_default_iff]
  exact ⟨fun ⟨_, h⟩ => Machine.wellFormed_of_decodeRequest h rfl, Machine.decodeRequest_of_wellFormed⟩

/-- Settles O1: a code is the code of what it decodes to, and the code of every instruction decodes to it. -/
theorem decodeAndEncodeAgree : Obligations.DecodeAndEncodeAgree := by
  unfold Obligations.DecodeAndEncodeAgree
  exact decode_eq_ok_iff

/-- Settles O2: the requests that decode and the selectors that decode. -/
theorem definedCodesAndNoOthersDecode : Obligations.DefinedCodesAndNoOthersDecode := by
  unfold Obligations.DefinedCodesAndNoOthersDecode
  exact ⟨decodeRequest_isOk_iff, decodeStep_isOk_iff⟩

/-- Settles O4: each written-out code is the code of its instruction. -/
theorem writtenOutCodesDecode : Obligations.WrittenOutCodesDecode := by
  unfold Obligations.WrittenOutCodesDecode
  exact ⟨decode_encode (.md5b _), decode_encode (.ntlm _), decode_encode (.enc8 _), decode_encode .md5Step3,
    decode_encode .md5Step63, decode_encode .md4Step0, decode_encode .md4Step47⟩

end Sys2Proof
end

section
/-! SUPPORT. The sequencer's invariant at reset and along every step, and that no step is stuck under it (O51 to O53). -/

namespace Sys2Proof.Machine

/-- An idle instance that holds what it holds between operations meets the invariant (10_state.md R35). -/
theorem inv_of_released {s : State} (hp : s.phase = .idle) (hs : s.released = s) : SequencerInv s :=
  (sequencerInv_idle hp).mpr hs.symm

/-- Everything a step of a ready instance can do where it goes on: nothing is offered and nothing changes, or the first offer is
well formed and its operation is carried through or accepted (45_sequencer.md R210, R212). -/
theorem ready_step_cases {s t : State} (h : Ready s) (hstep : step s = .next t) :
    (s.offered = [] ∧ t = s) ∨
    ∃ r rest, s.offered = r :: rest ∧ r.wellFormed s.params = true ∧
      ((s.params.granularity = .operation ∧ t = State.respond (responseTo s.params r) { s with offered := rest }) ∨
        (s.params.granularity = .phase ∧ t = State.accept r { s with offered := rest })) := by
  obtain ⟨hidle, hnotReset⟩ := h
  rcases step_next_cases hstep with ⟨hreset, -⟩ | ⟨-, ⟨-, ho, ht⟩ | ⟨r, rest, i, -, ho, hd, ha, ht⟩ | hbusy⟩
  · rw [hnotReset] at hreset
    cases hreset
  · exact .inl ⟨ho, ht⟩
  · exact .inr ⟨r, rest, ho, wellFormed_of_decodeRequest hd ha, ht⟩
  · simp [hidle] at hbusy

theorem ready_step_keeps_inv {s t : State} (hi : SequencerInv s) (h : Ready s) (hstep : step s = .next t) :
    SequencerInv t := by
  rcases ready_step_cases h hstep with ⟨-, rfl⟩ | ⟨r, rest, ho, hw, ⟨-, rfl⟩ | ⟨hg, -⟩⟩
  · exact hi
  · exact inv_of_released rfl rfl
  · obtain ⟨u, haccept, hinv, -⟩ := accept_step h hw hg ho
    cases hstep.symm.trans haccept
    exact hinv

/-- Every step keeps the invariant: under reset, of an idle instance and of a busy one. -/
theorem step_keeps_inv {s t : State} (hi : SequencerInv s) (h : step s = .next t) : SequencerInv t := by
  by_cases hr : s.resetApplied = true
  · cases (step_of_reset hr).symm.trans h
    exact inv_of_released s.applyReset_phase s.applyReset_released
  replace hr := Bool.eq_false_of_not_eq_true hr
  by_cases hp : s.phase = .idle
  · exact ready_step_keeps_inv hi ⟨hp, hr⟩ h
  · obtain ⟨u, hstep, hinv⟩ := busy_step_keeps_inv hi hr ((State.busy_iff s).mpr hp)
    cases h.symm.trans hstep
    exact hinv

/-- An idle instance answers a next state or a refusal, never a fault (60_exceptions.md R230, R239). -/
theorem idle_step_ne_fault {s : State} (hr : s.resetApplied = false) (hp : s.phase = .idle) (f : Fault) :
    step s ≠ .fault f := by
  rcases ho : s.offered with _ | ⟨r, rest⟩
  · simp [step_idle_nil hr hp ho]
  rcases hd : decodeRequest r with e | i
  · simp [step_idle_error hr hp ho hd]
  · rw [step_idle_ok hr hp ho hd, exec_of_decodeRequest hd]
    exact runCommand_ne_fault _ _ _ _ f

/-- Under the invariant a busy instance goes on, reset or not. -/
theorem busy_step_goes_on {s : State} (hi : SequencerInv s) (hb : s.busy = true) : ∃ t, step s = .next t := by
  by_cases hr : s.resetApplied = true
  · exact ⟨_, step_of_reset hr⟩
  · obtain ⟨t, hstep, -⟩ := busy_step_keeps_inv hi (Bool.eq_false_of_not_eq_true hr) hb
    exact ⟨t, hstep⟩

/-- Settles O51: after reset the instance is idle and holds what it holds between operations. -/
theorem sequencerInvariantHoldsAtReset : Obligations.SequencerInvariantHoldsAtReset := by
  unfold Obligations.SequencerInvariantHoldsAtReset
  exact inv_of_released rfl rfl

/-- Settles O52: the reset and idle steps by their outcomes, the busy ones phase by phase. -/
theorem stepKeepsTheSequencerInvariant : Obligations.StepKeepsTheSequencerInvariant := by
  unfold Obligations.StepKeepsTheSequencerInvariant
  exact fun _ _ => step_keeps_inv

/-- Settles O53: only a busy step could fault, and under the invariant it goes on. -/
theorem noStepIsStuckUnderTheInvariant : Obligations.NoStepIsStuckUnderTheInvariant := by
  unfold Obligations.NoStepIsStuckUnderTheInvariant
  refine fun s hi => ⟨fun f => ?fault, busy_step_goes_on hi⟩
  case fault =>
    by_cases hr : s.resetApplied = true
    · simp [step_of_reset hr]
    by_cases hp : s.phase = .idle
    · exact idle_step_ne_fault (Bool.eq_false_of_not_eq_true hr) hp f
    · obtain ⟨t, hstep⟩ := busy_step_goes_on hi ((State.busy_iff s).mpr hp)
      simp [hstep]

end Sys2Proof.Machine
end

section
/-! SUPPORT. The commands in the words of their rules, by what any command can do, and the obligations about them and about the
step that runs them (O5 to O7, O9 to O15). -/

namespace Sys2Proof.Machine

/-- A command on a ready instance that merges the transitions of an operation delivers its response and leaves every other
item as after reset (45_sequencer.md R210, 10_state.md R35). -/
theorem runCommand_ready_merged {s : State} {r : Request} {m : List Byte} {x : Response} (h : Ready s)
    (hg : s.params.granularity = .operation) (ha : admits s.params m.length = true) :
    runCommand r m x s = .next
      { State.reset with params := s.params, offered := s.offered, delivered := s.delivered ++ [x] } := by
  obtain ⟨hidle, hreset⟩ := h
  rw [runCommand_merged ((State.not_busy_iff s).mpr hidle) ha hg, State.respond_eq, hreset]
  rfl

/-- Where the transitions of an operation are merged, a command's outcome depends on its message and response alone. -/
theorem runCommand_merged_congr (r q : Request) (m : List Byte) (x : Response) {s : State} (h : s.busy = false)
    (hg : s.params.granularity = .operation) : runCommand r m x s = runCommand q m x s := by
  cases ha : admits s.params m.length with
  | false => rw [runCommand_tooLong h ha, runCommand_tooLong h ha]
  | true => rw [runCommand_merged h ha hg, runCommand_merged h ha hg]

/-- A command within the instance's domain goes on in an instance that is not busy, in either granularity. -/
theorem runCommand_goes_on {r : Request} {m : List Byte} {x : Response} {s : State} (h : s.busy = false)
    (ha : admits s.params m.length = true) : ∃ t, runCommand r m x s = .next t := by
  cases hg : s.params.granularity with
  | operation => exact ⟨_, runCommand_merged h ha hg⟩
  | phase => exact ⟨_, runCommand_accepted h ha hg⟩

/-- The domain of an instance with a finite bound (60_exceptions.md R231). -/
theorem admits_of_bound {p : Params} {n : Nat} (h : p.maxMsgBytes = some n) (l : Nat) : admits p l = decide (l ≤ n) := by
  rw [admits, h]

/-- An unbounded instance admits every length (00_scope.md R6). -/
theorem admits_of_unbounded {p : Params} (h : p.maxMsgBytes = none) (l : Nat) : admits p l = true := by
  rw [admits, h]

theorem admits_of_wellFormed {p : Params} {r : Request} (h : r.wellFormed p = true) :
    admits p (requestMessage p r).length = true := by
  rw [Request.wellFormed, Bool.and_eq_true] at h
  exact h.2

/-- The selector `{ALG, step}` of a row (30_encoding.md R74, R77): `step` is below NSTEPS, and the row is the running algorithm's step `step`. -/
theorem exec_of_selector {s : State} {sel : BitVec 7} {i : Instr} (hidx : s.stepIdx < 64)
    (hsel : sel.toNat = (if s.op.getLsbD 0 then 64 else 0) + s.stepIdx) (hd : decodeStep sel = .ok i) :
    s.stepIdx < nSteps (opAlg s.op) ∧ exec i s = .next (stepped (opAlg s.op) s.stepIdx s) := by
  have hrow : sel.toNat < 112 := (decodeStep_isOk_iff sel).mp ⟨i, hd⟩
  rw [exec_of_decodeStep hd, opAlg]
  by_cases hop : s.op.getLsbD 0 = true
  · rw [if_pos hop] at hsel
    rw [if_pos hop, if_neg (by omega), show sel.toNat % 64 = s.stepIdx by omega]
    exact ⟨show s.stepIdx < 48 by omega, rfl⟩
  · rw [if_neg hop, Nat.zero_add] at hsel
    rw [if_neg hop, hsel, if_pos hidx, Nat.mod_eq_of_lt hidx]
    exact ⟨hidx, rfl⟩

/-- Settles O5: the request offered first is decoded and run on the state without it. -/
theorem stepRunsTheOfferedCommand : Obligations.StepRunsTheOfferedCommand := by
  unfold Obligations.StepRunsTheOfferedCommand
  rintro s r rest i ⟨hidle, hreset⟩ ho hd
  exact step_idle_ok hreset hidle ho hd

/-- Settles O6: the selected row is the step of the running algorithm that the sequencer performs. -/
theorem stepRunsTheSelectedMicroStep : Obligations.StepRunsTheSelectedMicroStep := by
  unfold Obligations.StepRunsTheSelectedMicroStep
  intro s sel i hp hr hidx hsel hd
  obtain ⟨hlt, hexec⟩ := exec_of_selector hidx hsel hd
  refine ⟨_, hexec, ?_⟩
  rw [step_step hr hp hlt, afterMicroStep, nSteps_opAlg]

/-- Settles O7: nothing is fetched, so nothing changes. -/
theorem idleInstanceHoldsItsState : Obligations.IdleInstanceHoldsItsState := by
  unfold Obligations.IdleInstanceHoldsItsState
  rintro s ⟨hidle, hreset⟩ ho
  exact step_idle_nil hreset hidle ho

/-- Settles O9: an idle instance is not busy, and the rest are the fields of the state after reset. -/
theorem resetStateIsIdleAndEmpty : Obligations.ResetStateIsIdleAndEmpty := by
  unfold Obligations.ResetStateIsIdleAndEmpty
  exact ⟨rfl, (State.not_busy_iff State.reset).mpr rfl, rfl, rfl, rfl⟩

/-- Settles O10: each digest command is the merged operation of its message, whose response is the digest and its hex. -/
theorem digestCommandsDeliverTheirDigest : Obligations.DigestCommandsDeliverTheirDigest := by
  unfold Obligations.DigestCommandsDeliverTheirDigest
  intro s hready hg
  refine ⟨fun m ha => ⟨?md5b, ?md4b⟩, fun u ha => ?md5s, fun u ha => ?ntlm⟩
  case md5b => exact runCommand_ready_merged hready hg ha
  case md4b => exact runCommand_ready_merged hready hg ha
  case md5s => exact runCommand_ready_merged hready hg ha
  case ntlm => exact runCommand_ready_merged hready hg ha

/-- Settles O11: each encode-only command is the merged operation of its message, which is also its response. -/
theorem encodeOnlyCommandsDeliverTheirBytes : Obligations.EncodeOnlyCommandsDeliverTheirBytes := by
  unfold Obligations.EncodeOnlyCommandsDeliverTheirBytes
  intro s u hready hg
  refine ⟨fun ha => ?enc8, fun ha => ?enc16⟩
  case enc8 => exact runCommand_ready_merged hready hg ha
  case enc16 => exact runCommand_ready_merged hready hg ha

/-- Settles O12: a busy instance holds any command, and a ready one latches the operand of a well-formed one by its type. -/
theorem commandsAreAcceptedWhenIdleAndHeldWhenBusy : Obligations.CommandsAreAcceptedWhenIdleAndHeldWhenBusy := by
  unfold Obligations.CommandsAreAcceptedWhenIdleAndHeldWhenBusy
  intro i r s hcode
  rw [exec_of_decodeRequest (decodeRequest_of_encode hcode)]
  refine ⟨runCommand_busy, fun hready hg hwf => ⟨s.accept r, ?goesOn, State.accept_busy r s, ?latched⟩⟩
  case goesOn =>
    rw [Instr.wellFormed, hcode] at hwf
    exact runCommand_accepted ((State.not_busy_iff s).mpr hready.1) (admits_of_wellFormed hwf) hg
  case latched =>
    cases hx : r.operand with
    | bytes m => exact State.accept_of_bytes hx s
    | string u => exact State.accept_of_string hx s

/-- Settles O13: the bound decides whether the message is within the instance's domain. -/
theorem overlongMessagesAreRefused : Obligations.OverlongMessagesAreRefused := by
  unfold Obligations.OverlongMessagesAreRefused
  intro i r s hcode hb
  rw [exec_of_decodeRequest (decodeRequest_of_encode hcode)]
  refine ⟨fun n hbound hlong => ?refused, fun hbound => runCommand_goes_on hb (admits_of_unbounded hbound _)⟩
  case refused =>
    refine runCommand_tooLong hb ?_
    rw [admits_of_bound hbound, decide_eq_false (Nat.not_le.mpr hlong)]

/-- Settles O14: the two commands have one message and one response. -/
theorem stringDigestsAreDigestsOfTheEncodedString : Obligations.StringDigestsAreDigestsOfTheEncodedString := by
  unfold Obligations.StringDigestsAreDigestsOfTheEncodedString
  rintro s u ⟨hidle, -⟩ hg
  have hb := (State.not_busy_iff s).mpr hidle
  exact ⟨runCommand_merged_congr _ _ _ _ hb hg, runCommand_merged_congr _ _ _ _ hb hg⟩

/-- Settles O15: an instruction is a command, which never faults, or a row of the table, which always goes on. -/
theorem noInstructionFaults : Obligations.NoInstructionFaults := by
  unfold Obligations.NoInstructionFaults
  refine ⟨fun i s f => ?noFault, fun sel i s hd => ⟨_, exec_of_decodeStep hd s⟩⟩
  case noFault =>
    cases hcode : encode i with
    | cmd r =>
      rw [exec_of_decodeRequest (decodeRequest_of_encode hcode)]
      exact runCommand_ne_fault _ _ _ _ f
    | ustep sel =>
      have hd : decodeStep sel = .ok i := (decode_eq_ok_iff (.ustep sel) i).mpr hcode
      simp [exec_of_decodeStep hd]

end Sys2Proof.Machine
end

section
/-! SUPPORT. Whole operations: both granularities, the bound on what is left of a running one, and lists of offers served one
after the other, by one instance and in a system (O55 to O58). -/

namespace Sys2Proof.Machine

/-- What a ready instance is once it has served its first offer: as after reset, with the response delivered. -/
def State.servedFirst (s : State) (r : Request) (rest : List Request) : State :=
  { State.reset with params := s.params, offered := rest, delivered := s.delivered ++ [responseTo s.params r] }

/-- Phase by phase, that state is reached after the steps of the operation (45_sequencer.md R221). -/
theorem run_phased_operation {s : State} {r : Request} {rest : List Request} (h : Ready s)
    (hg : s.params.granularity = .phase) (hw : r.wellFormed s.params = true) (ho : s.offered = r :: rest) :
    Host.Core.run core (opSteps s.params r + 1) s = .next (s.servedFirst r rest) :=
  (operationTakesItsStepsAndDeliversItsResponse s r rest h hg hw ho).2

/-- Merged into one step, the operation reaches it at once (R210). -/
theorem step_merged_operation {s : State} {r : Request} {rest : List Request} (h : Ready s)
    (hg : s.params.granularity = .operation) (hw : r.wellFormed s.params = true) (ho : s.offered = r :: rest) :
    step s = .next (s.servedFirst r rest) := by
  obtain ⟨i, hd⟩ := decodeRequest_of_wellFormed hw
  rw [step_idle_ok h.2 h.1 ho hd, exec_of_decodeRequest hd]
  exact runCommand_ready_merged (s := { s with offered := rest }) h hg (admits_of_wellFormed hw)

/-- A ready instance goes on only with a well-formed request (R212, 60_exceptions.md R231). -/
theorem wellFormed_of_step {s t : State} {r : Request} {rest : List Request} (h : Ready s)
    (ho : s.offered = r :: rest) (hstep : step s = .next t) : r.wellFormed s.params = true := by
  rcases ready_step_cases h hstep with ⟨hnone, -⟩ | ⟨q, others, ho', hw, -⟩
  · cases ho.symm.trans hnone
  · cases ho.symm.trans ho'
    exact hw

/-- The instance with the granularity `g` (log 3). -/
def State.withGranularity (g : Granularity) (s : State) : State :=
  { s with params := { s.params with granularity := g } }

/-- Granularity is no part of an instance's domain. -/
theorem wellFormed_withGranularity (g : Granularity) (s : State) (r : Request) :
    r.wellFormed (s.withGranularity g).params = r.wellFormed s.params := rfl

/-- Settles O55: a merged step that goes on takes a well-formed request, and both granularities reach the state that is as
after reset but for its response. -/
theorem mergedAndPhasedOperationsAgree : Obligations.MergedAndPhasedOperationsAgree := by
  unfold Obligations.MergedAndPhasedOperationsAgree
  intro s t r rest hready ho hstep
  have hmerged : Ready (s.withGranularity .operation) := hready
  have hphased : Ready (s.withGranularity .phase) := hready
  have hw := wellFormed_of_step hmerged ho hstep
  rw [wellFormed_withGranularity] at hw
  cases hstep.symm.trans (step_merged_operation hmerged rfl hw ho)
  exact run_phased_operation hphased rfl hw ho

/-! The bound on a running operation. -/

/-- What is left of a block and the blocks after it is within the whole message (45_sequencer.md R221). -/
theorem blocks_left_le {b n c : Nat} (h : b < n) : c + (n - b - 1) * c ≤ n * c := by
  rw [← sub_mul_step h]
  exact Nat.mul_le_mul_right c (Nat.sub_le n b)

/-- Under the invariant a running operation is within the bound of R275 of its end. -/
theorem remaining_le {s : State} (hi : SequencerInv s) :
    remaining s ≤ numBlocks (pad s.message) * (nSteps (opAlg s.op) + 2) + 4 := by
  cases hp : s.phase with
  | idle =>
    simp only [remaining, hp]
    omega
  | encode =>
    simp only [remaining, hp, compressSteps]
    split <;> omega
  | pad =>
    rw [State.message_of_ne (by simp [hp])]
    simp only [remaining, hp, compressSteps]
    omega
  | init =>
    rw [State.message_of_ne (by simp [hp])]
    simp only [remaining, hp, compressSteps]
    omega
  | load =>
    obtain ⟨⟨-, -, -, hpbs⟩, hlt, -⟩ := (sequencerInv_load hp).mp hi
    have hleft := blocks_left_le (c := nSteps (opAlg s.op) + 2) hlt
    rw [State.message_of_ne (by simp [hp]), ← hpbs]
    simp only [remaining, hp, sub_mul_step hlt]
    omega
  | step =>
    obtain ⟨⟨⟨-, -, -, hpbs⟩, hlt, -⟩, -⟩ := (sequencerInv_step hp).mp hi
    have hleft := blocks_left_le (c := nSteps (opAlg s.op) + 2) hlt
    rw [State.message_of_ne (by simp [hp]), ← hpbs]
    simp only [remaining, hp]
    omega
  | feed =>
    obtain ⟨⟨⟨-, -, -, hpbs⟩, hlt, -⟩, -⟩ := (sequencerInv_feed hp).mp hi
    have hleft := blocks_left_le (c := nSteps (opAlg s.op) + 2) hlt
    rw [State.message_of_ne (by simp [hp]), ← hpbs]
    simp only [remaining, hp]
    omega
  | out =>
    simp only [remaining, hp]
    omega

/-- A busy state that meets the invariant is a running operation with as many phase executions left as `remaining` counts. -/
theorem running_of_inv {s : State} (hi : SequencerInv s) (hr : s.resetApplied = false) (hb : s.busy = true) :
    Running (s.respond s.expected) (remaining s) s :=
  ⟨hi, hr, hb, rfl, rfl⟩

/-- Settles O56: the operation ends after the phase executions it has left, which are within the bound. -/
theorem everyOperationEnds : Obligations.EveryOperationEnds := by
  unfold Obligations.EveryOperationEnds
  exact fun s hi hr hb => ⟨remaining s, s.respond s.expected, remaining_le hi, (running_of_inv hi hr hb).run_to_end,
    (State.not_busy_iff _).mpr (State.respond_phase s _), State.respond_delivered s _⟩

/-! Lists of offers. -/

/-- What a ready instance is once it has served all its offers: unchanged without any, otherwise as after reset with the
response of each delivered. -/
def State.served (s : State) : State :=
  if s.offered = [] then s
  else { State.reset with
    params := s.params, offered := [], delivered := s.delivered ++ s.offered.map (responseTo s.params) }

theorem State.served_of_nil {s : State} (h : s.offered = []) : s.served = s := if_pos h

theorem State.served_ready {s : State} (h : Ready s) : Ready s.served := by
  unfold State.served
  split
  · exact h
  · exact ⟨rfl, rfl⟩

theorem State.served_offered (s : State) : s.served.offered = [] := by
  unfold State.served
  split
  · assumption
  · rfl

theorem State.served_delivered (s : State) :
    s.served.delivered = s.delivered ++ s.offered.map (responseTo s.params) := by
  unfold State.served
  split
  · next h => rw [h, List.map_nil, List.append_nil]
  · rfl

/-- Serving the first offer and then the others is serving them all. -/
theorem State.served_servedFirst {s : State} {r : Request} {rest : List Request} (h : s.offered = r :: rest) :
    (s.servedFirst r rest).served = s.served := by
  cases rest with
  | nil => simp [State.served, State.servedFirst, h]
  | cons q rest => simp [State.served, State.servedFirst, h]

/-- In either granularity a ready instance serves a well-formed first offer within its acceptance and phase executions. -/
theorem run_servedFirst {s : State} {r : Request} {rest : List Request} (h : Ready s)
    (hw : r.wellFormed s.params = true) (ho : s.offered = r :: rest) :
    ∃ k, k ≤ opSteps s.params r + 1 ∧ Host.Core.run core k s = .next (s.servedFirst r rest) := by
  cases hg : s.params.granularity with
  | operation => exact ⟨1, by omega, run_next core (step_merged_operation h hg hw ho) 0⟩
  | phase => exact ⟨opSteps s.params r + 1, Nat.le_refl _, run_phased_operation h hg hw ho⟩

/-- A ready instance serves a list of well-formed offers, one after the other (10_state.md R32). -/
theorem run_served {s : State} (h : Ready s) (hw : ∀ r ∈ s.offered, r.wellFormed s.params = true) :
    ∃ k, k ≤ serveSteps s.params s.offered ∧ Host.Core.run core k s = .next s.served := by
  induction ho : s.offered generalizing s with
  | nil => exact ⟨0, Nat.zero_le _, by rw [State.served_of_nil ho]; rfl⟩
  | cons r rest ih =>
    rw [ho, List.forall_mem_cons] at hw
    obtain ⟨hfirst, hrest⟩ := hw
    obtain ⟨k, hk, hrun⟩ := run_servedFirst h hfirst ho
    obtain ⟨n, hn, hrun'⟩ := ih (s := s.servedFirst r rest) ⟨rfl, rfl⟩ hrest rfl
    refine ⟨k + n, ?_, (run_trans core hrun).trans (hrun'.trans (by rw [State.served_servedFirst ho]))⟩
    exact Nat.add_le_add hk hn

/-- As many steps of its own as are enough for its offers leave a ready instance with all of them served, and so do more. -/
theorem State.advances_served {s : State} (h : Ready s) (hw : ∀ r ∈ s.offered, r.wellFormed s.params = true) {n : Nat}
    (hn : serveSteps s.params s.offered ≤ n) : s.advances n = s.served := by
  obtain ⟨k, hk, hrun⟩ := run_served h hw
  obtain ⟨d, rfl⟩ := Nat.exists_eq_add_of_le (hk.trans hn)
  rw [State.advances_add, State.advances_of_run hrun, State.advances_of_ready (State.served_ready h) s.served_offered]

/-- Settles O57: by induction on the offers, each served from a ready state whatever came before. -/
theorem requestsAreServedInOrderEachOnItsOwn : Obligations.RequestsAreServedInOrderEachOnItsOwn := by
  unfold Obligations.RequestsAreServedInOrderEachOnItsOwn
  intro s h hw
  obtain ⟨k, -, hrun⟩ := run_served h hw
  exact ⟨k, s.served, hrun, (State.not_busy_iff _).mpr (State.served_ready h).1, s.served_offered, s.served_delivered⟩

/-- Settles O58: what a schedule does to a place is its instance's own steps, and enough of these serve all its offers. -/
theorem instancesServeTheirOwnOffersInAnySchedule : Obligations.InstancesServeTheirOwnOffersInAnySchedule := by
  unfold Obligations.InstancesServeTheirOwnOffersInAnySchedule
  intro sys schedule n s hs h hw hn
  rw [System.run_getElem?, hs, Option.map_some, State.advances_served h hw hn, State.served]

end Sys2Proof.Machine
end

section
/-! SUPPORT. What a step leaves alone, by what each kind of step can do: the order of the phases, the parameters, the items of a running
operation, its independence of other offers and of data, and the obligations about these (O46 to O50, O59). -/

namespace Sys2Proof.Machine

/-- Everything a step of a busy instance can do where it goes on: the one transition of its phase (45_sequencer.md R213). -/
theorem busy_step_transitions {s t : State} (hr : s.resetApplied = false) (hb : s.busy = true)
    (h : step s = .next t) :
    (s.phase = .encode ∧ t = encodePhase s) ∨ (s.phase = .pad ∧ t = padPhase s) ∨
    (s.phase = .init ∧ t = initPhase s) ∨ (s.phase = .load ∧ s.blk < numBlocks s.pbs ∧ t = loadPhase s) ∨
    (s.phase = .step ∧ s.stepIdx < nSteps (opAlg s.op) ∧
      t = afterMicroStep (stepped (opAlg s.op) s.stepIdx s)) ∨
    (s.phase = .feed ∧ t = feedPhase s) ∨ (s.phase = .out ∧ t = outPhase s) := by
  have hbusy := (State.busy_iff s).mp hb
  rcases step_next_cases h with ⟨hreset, -⟩ | ⟨-, ⟨hidle, -⟩ | ⟨-, -, -, hidle, -⟩ | htransition⟩
  · rw [hr] at hreset
    cases hreset
  · exact absurd hidle hbusy
  · exact absurd hidle hbusy
  · exact htransition

/-! The order of the phases. -/

/-- A well-formed request is accepted into ENCODE with a string operand and into PAD with a byte operand (R212). -/
theorem accept_phase {p : Params} {r : Request} (hw : r.wellFormed p = true) (s : State) :
    ((s.accept r).phase = .encode ∧ (s.accept r).op.getLsbD 1 = true) ∨
      ((s.accept r).phase = .pad ∧ (s.accept r).op.getLsbD 1 = false) := by
  obtain ⟨i, hd⟩ := decodeRequest_of_wellFormed hw
  rcases request_cases hd with ⟨m, hx, hsrc, -⟩ | ⟨u, hx, hsrc⟩
  · rw [State.accept_of_bytes hx]
    exact .inr ⟨rfl, hsrc⟩
  · rw [State.accept_of_string hx]
    exact .inl ⟨rfl, hsrc⟩

theorem encodePhase_phase (s : State) :
    if s.op.getLsbD 2 then (encodePhase s).phase = .out else (encodePhase s).phase = .pad := by
  split
  · next he => rw [encodePhase_of_encOnly he]
  · next he => rw [encodePhase_of_digest (Bool.eq_false_of_not_eq_true he)]

/-- Settles O46: an idle instance by what it can do with its first offer, a busy one by the transition of its phase. -/
theorem phasesFollowTheirOrder : Obligations.PhasesFollowTheirOrder := by
  unfold Obligations.PhasesFollowTheirOrder
  intro s t hr h
  by_cases hidle : s.phase = .idle
  · rw [hidle]
    rcases ready_step_cases ⟨hidle, hr⟩ h with ⟨-, rfl⟩ | ⟨r, rest, -, hw, ⟨-, rfl⟩ | ⟨-, rfl⟩⟩
    · exact .inl hidle
    · exact .inl rfl
    · exact .inr (accept_phase hw _)
  rcases busy_step_transitions hr ((State.busy_iff s).mpr hidle) h with ⟨hp, rfl⟩ | ⟨hp, rfl⟩ | ⟨hp, rfl⟩ |
    ⟨hp, -, rfl⟩ | ⟨hp, -, rfl⟩ | ⟨hp, rfl⟩ | ⟨hp, rfl⟩
  all_goals rw [hp]
  · exact encodePhase_phase s
  · rfl
  · rfl
  · rfl
  · exact (apply_ite (_ = ·) _ _ _).mp (afterMicroStep_stepped_phase (opAlg s.op) s.stepIdx s)
  · exact (apply_ite (_ = ·) _ _ _).mp (feedPhase_phase s)
  · exact outPhase_phase s

/-! The instance's constants. -/

/-- Settles O47: none of the transitions writes the parameters, reset and acceptance included. -/
theorem parametersNeverChange : Obligations.ParametersNeverChange := by
  unfold Obligations.ParametersNeverChange
  intro s t h
  rcases step_next_cases h with ⟨-, rfl⟩ | ⟨-, ⟨-, -, rfl⟩ | ⟨r, rest, i, -, -, -, -, ⟨-, rfl⟩ | ⟨-, rfl⟩⟩ |
    ⟨-, rfl⟩ | ⟨-, rfl⟩ | ⟨-, rfl⟩ | ⟨-, -, rfl⟩ | ⟨-, -, rfl⟩ | ⟨-, rfl⟩ | ⟨-, rfl⟩⟩
  · exact State.applyReset_params s
  · rfl
  · rfl
  · exact State.accept_params _ r
  · exact encodePhase_params s
  · rfl
  · rfl
  · rfl
  · rfl
  · rfl
  · exact outPhase_params s

/-! The items of a running operation. -/

theorem outPhase_not_busy (s : State) : (outPhase s).busy = false :=
  (State.not_busy_iff _).mpr (outPhase_phase s)

/-- ENCODE writes the message, the encoder output and the phase alone (R214). -/
theorem encodePhase_frame (s : State) :
    encodePhase s =
      { s with msg := (encodePhase s).msg, encout := (encodePhase s).encout, phase := (encodePhase s).phase } := by
  cases he : opEncOnly s.op with
  | false => rw [encodePhase_of_digest he]
  | true => rw [encodePhase_of_encOnly he]

/-- Settles O48: each transition but OUT, which ends the operation, writes the items of its phase alone. -/
theorem runningOperationKeepsWhatItLatched : Obligations.RunningOperationKeepsWhatItLatched := by
  unfold Obligations.RunningOperationKeepsWhatItLatched
  intro s t hr hb h hbusy
  rcases busy_step_transitions hr hb h with ⟨hp, rfl⟩ | ⟨hp, rfl⟩ | ⟨hp, rfl⟩ | ⟨hp, -, rfl⟩ | ⟨hp, -, rfl⟩ |
    ⟨hp, rfl⟩ | ⟨hp, rfl⟩
  · rw [encodePhase_frame]
    simp [hp]
  · simp [hp, padPhase]
  · simp [hp, initPhase]
  · simp [hp, loadPhase]
  · simp [hp, afterMicroStep, stepped]
  · simp [hp, feedPhase]
  · rw [outPhase_not_busy] at hbusy
    cases hbusy

/-! Offers made while an operation runs. -/

theorem encodePhase_offer (r : Request) (s : State) : encodePhase (s.offer r) = (encodePhase s).offer r := by
  cases he : opEncOnly s.op with
  | false => rw [encodePhase_of_digest he, encodePhase_of_digest (s := s.offer r) he]; rfl
  | true => rw [encodePhase_of_encOnly he, encodePhase_of_encOnly (s := s.offer r) he]; rfl

theorem outPhase_offer (r : Request) (s : State) : outPhase (s.offer r) = (outPhase s).offer r := by
  cases he : opEncOnly s.op with
  | false => rw [outPhase_of_digest he, outPhase_of_digest (s := s.offer r) he]; rfl
  | true => rw [outPhase_of_encOnly he, outPhase_of_encOnly (s := s.offer r) he]; rfl

/-- A busy step takes no offer, and delivers nothing before the end of the operation (R211). -/
theorem busy_step_requester_side {s t : State} (hr : s.resetApplied = false) (hb : s.busy = true)
    (h : step s = .next t) : t.offered = s.offered ∧ (t.busy = true → t.delivered = s.delivered) := by
  rcases busy_step_transitions hr hb h with ⟨-, rfl⟩ | ⟨-, rfl⟩ | ⟨-, rfl⟩ | ⟨-, -, rfl⟩ | ⟨-, -, rfl⟩ | ⟨-, rfl⟩ |
    ⟨-, rfl⟩
  · exact ⟨encodePhase_offered s, fun _ => encodePhase_delivered s⟩
  · exact ⟨rfl, fun _ => rfl⟩
  · exact ⟨rfl, fun _ => rfl⟩
  · exact ⟨rfl, fun _ => rfl⟩
  · exact ⟨rfl, fun _ => rfl⟩
  · exact ⟨rfl, fun _ => rfl⟩
  · refine ⟨outPhase_offered s, fun hbusy => ?_⟩
    rw [outPhase_not_busy] at hbusy
    cases hbusy

/-- A busy step commutes with an offer: the request waits (R212). -/
theorem busy_step_offer {s t : State} (r : Request) (hr : s.resetApplied = false) (hb : s.busy = true)
    (h : step s = .next t) : step (s.offer r) = .next (t.offer r) := by
  have hr' : (s.offer r).resetApplied = false := hr
  rcases busy_step_transitions hr hb h with ⟨hp, rfl⟩ | ⟨hp, rfl⟩ | ⟨hp, rfl⟩ | ⟨hp, hblk, rfl⟩ | ⟨hp, hidx, rfl⟩ |
    ⟨hp, rfl⟩ | ⟨hp, rfl⟩
  · rw [step_encode hr' hp, encodePhase_offer]
  · exact step_pad hr' hp
  · exact step_init hr' hp
  · exact (step_load hr' hp).trans (if_pos hblk)
  · exact step_step hr' hp hidx
  · exact step_feed hr' hp
  · rw [step_out hr' hp, outPhase_offer]

/-- Settles O49: a busy step keeps the offers, delivers nothing before the end, and commutes with one more offer. -/
theorem offersWhileBusyHaveNoEffect : Obligations.OffersWhileBusyHaveNoEffect := by
  unfold Obligations.OffersWhileBusyHaveNoEffect
  intro s t r hr hb h
  obtain ⟨hoffered, hdelivered⟩ := busy_step_requester_side hr hb h
  exact ⟨hoffered, hdelivered, busy_step_offer r hr hb h⟩

/-! Control and data. -/

/-- Two states agree in control and in the lengths that control depends on (R220). -/
structure ControlAgrees (s t : State) : Prop where
  phase : t.phase = s.phase
  op : t.op = s.op
  blk : t.blk = s.blk
  stepIdx : t.stepIdx = s.stepIdx
  msgLength : t.msg.length = s.msg.length
  pbsLength : t.pbs.length = s.pbs.length

theorem ControlAgrees.numBlocks_eq {s t : State} (h : ControlAgrees s t) : numBlocks t.pbs = numBlocks s.pbs := by
  rw [numBlocks, numBlocks, h.pbsLength]

/-- The length of a padded stream depends on the length of its message alone (41_padding.md R123). -/
theorem ControlAgrees.padPhase {s t : State} (h : ControlAgrees s t) : ControlAgrees (padPhase s) (padPhase t) :=
  ⟨rfl, h.op, h.blk, h.stepIdx, h.msgLength, by simp only [Machine.padPhase, padWith_length, h.msgLength]⟩

theorem ControlAgrees.initPhase {s t : State} (h : ControlAgrees s t) : ControlAgrees (initPhase s) (initPhase t) :=
  ⟨rfl, h.op, rfl, h.stepIdx, h.msgLength, h.pbsLength⟩

theorem ControlAgrees.loadPhase {s t : State} (h : ControlAgrees s t) : ControlAgrees (loadPhase s) (loadPhase t) :=
  ⟨rfl, h.op, h.blk, rfl, h.msgLength, h.pbsLength⟩

theorem ControlAgrees.microStep {s t : State} (h : ControlAgrees s t) (alg alg' : Alg) (j k : Nat) :
    ControlAgrees (afterMicroStep (stepped alg j s)) (afterMicroStep (stepped alg' k t)) := by
  refine ⟨?phase, h.op, h.blk, congrArg (· + 1) h.stepIdx, h.msgLength, h.pbsLength⟩
  case phase => rw [afterMicroStep_stepped_phase, afterMicroStep_stepped_phase, h.op, h.stepIdx]

theorem ControlAgrees.feedPhase {s t : State} (h : ControlAgrees s t) : ControlAgrees (feedPhase s) (feedPhase t) := by
  refine ⟨?phase, h.op, congrArg (· + 1) h.blk, h.stepIdx, h.msgLength, h.pbsLength⟩
  case phase => rw [feedPhase_phase, feedPhase_phase, h.blk, h.numBlocks_eq]

/-- From PAD on, two states that agree in control go on in agreement, up to the end of the operation (R220). -/
theorem ControlAgrees.step {s t s' : State} (h : ControlAgrees s t) (hr : s.resetApplied = false)
    (hr' : t.resetApplied = false) (hb : s.busy = true) (hne : s.phase ≠ .encode) (hstep : step s = .next s')
    (hbusy : s'.busy = true) : ∃ t', step t = .next t' ∧ ControlAgrees s' t' := by
  rcases busy_step_transitions hr hb hstep with ⟨hp, rfl⟩ | ⟨hp, rfl⟩ | ⟨hp, rfl⟩ | ⟨hp, hblk, rfl⟩ |
    ⟨hp, hidx, rfl⟩ | ⟨hp, rfl⟩ | ⟨hp, rfl⟩
  · exact absurd hp hne
  · exact ⟨_, step_pad hr' (h.phase.trans hp), h.padPhase⟩
  · exact ⟨_, step_init hr' (h.phase.trans hp), h.initPhase⟩
  · rw [← h.blk, ← h.numBlocks_eq] at hblk
    exact ⟨_, (step_load hr' (h.phase.trans hp)).trans (if_pos hblk), h.loadPhase⟩
  · rw [← h.op, ← h.stepIdx] at hidx
    exact ⟨_, step_step hr' (h.phase.trans hp) hidx, h.microStep _ _ _ _⟩
  · exact ⟨_, step_feed hr' (h.phase.trans hp), h.feedPhase⟩
  · rw [outPhase_not_busy] at hbusy
    cases hbusy

/-- Settles O50: each transition of the phases from PAD on keeps the agreement in control. -/
theorem controlDoesNotDependOnData : Obligations.ControlDoesNotDependOnData := by
  unfold Obligations.ControlDoesNotDependOnData
  intro s t s' hr hr' hidle hencode hphase hop hblk hidx hmsg hpbs hstep hbusy
  obtain ⟨t', hstep', hagree⟩ := ControlAgrees.step ⟨hphase, hop, hblk, hidx, hmsg, hpbs⟩ hr hr'
    ((State.busy_iff s).mpr hidle) hencode hstep hbusy
  exact ⟨t', hstep', hagree.phase, hagree.op, hagree.blk, hagree.stepIdx, hagree.msgLength, hagree.pbsLength⟩

/-! The encoder output that OUT writes. -/

/-- Settles O59: for an encode-only command OUT ends the operation with `MSG`, and what it ends in does not hold `ENCOUT`. -/
theorem outWritesTheEncoderOutputItDelivers : Obligations.OutWritesTheEncoderOutputItDelivers := by
  unfold Obligations.OutWritesTheEncoderOutputItDelivers
  intro s hr hp he
  refine ⟨s.respond (.encoded s.msg), ?_, (State.not_busy_iff _).mpr (State.respond_phase s _),
    State.respond_delivered s _, ?_⟩
  · rw [step_out hr hp, outPhase_of_encOnly he]
  · rw [step_out (s := { s with encout := s.msg }) hr hp, outPhase_of_encOnly (s := { s with encout := s.msg }) he]
    rfl

end Sys2Proof.Machine
end

section
/-! SUPPORT. The table's rows run in order, the digest as a fold over the blocks, the renaming form of the MD5 step, and the obligations
about them (O23 to O25). -/

namespace Sys2Proof.Machine

/-- The rows of an algorithm, run in order on the words of a block, leave the registers that the block function adds the saved
ones to, and have counted their steps; nothing else changes (42_md5.md R151, 43_md4.md R181). -/
theorem execAll_block {alg : Alg} {rows : List Instr} (hlength : rows.length = nSteps alg)
    (hrows : ∀ (j : Nat) (h : j < rows.length) (u : State), exec rows[j] u = .next (stepped alg j u))
    {s : State} {b : List Byte} (hw : s.w = wordsOf b) :
    ∃ t, execAll rows s = .next t ∧ blockRegs alg s.regs b = t.regs.add s.regs ∧
      t = { s with regs := t.regs, stepIdx := s.stepIdx + nSteps alg } := by
  have hrun := execAll_rows alg rows s s.regs 0 rfl (fun j h u => by rw [Nat.zero_add]; exact hrows j h u)
  rw [Nat.zero_add, hlength] at hrun
  exact ⟨_, hrun, by rw [blockRegs, ← hw], rfl⟩

/-- Settles O23: the 64 rows before selector 64 are the MD5 steps in order, the 48 from there on the MD4 steps. -/
theorem tableRowsComputeTheBlockFunctions : Obligations.TableRowsComputeTheBlockFunctions := by
  unfold Obligations.TableRowsComputeTheBlockFunctions
  intro s b hw
  refine ⟨execAll_block (alg := .md5) rfl (fun j h u => ?md5) hw, execAll_block (alg := .md4) rfl (fun j h u => ?md4) hw⟩
  case md5 =>
    obtain ⟨-, hrow⟩ := stepRows_getElem?_of_part (pre := [])
      (rows := md5Round1Rows ++ md5Round2Rows ++ md5Round3Rows ++ md5Round4Rows)
      (post := md4Round1Rows ++ md4Round2Rows ++ md4Round3Rows) rfl (Nat.zero_le j) (List.getElem?_eq_getElem h)
    exact exec_md5Row h hrow u
  case md4 =>
    obtain ⟨-, hrow⟩ := stepRows_getElem?_of_md4Part
      (pre := md5Round1Rows ++ md5Round2Rows ++ md5Round3Rows ++ md5Round4Rows)
      (rows := md4Round1Rows ++ md4Round2Rows ++ md4Round3Rows) (post := [])
      rfl (first := 0) rfl (Nat.zero_le j) (List.getElem?_eq_getElem h)
    exact exec_md4Row h hrow u

/-- The chaining value after `n` blocks folds the block function over them (42_md5.md R152, 43_md4.md R182). -/
theorem chain_eq_foldl (alg : Alg) (pbs : List Byte) (n : Nat) :
    chain alg pbs n = (List.range n).foldl (fun r i => blockRegs alg r (blockAt pbs i)) initRegs := by
  induction n with
  | zero => rfl
  | succ n ih => rw [chain, ih, List.range_succ, List.foldl_append, List.foldl_cons, List.foldl_nil]

/-- Settles O24: the digest serialises the chaining value after all blocks. -/
theorem digestsFoldTheBlocksInOrder : Obligations.DigestsFoldTheBlocksInOrder := by
  unfold Obligations.DigestsFoldTheBlocksInOrder
  exact fun alg m => congrArg serialise (chain_eq_foldl alg (pad m) (numBlocks (pad m)))

/-- The values that the registers `r` of the fixed-register form hold in the roles of step `j` (42_md5.md R145). -/
def Regs.inRoles (j : Nat) (r : Regs) : Regs :=
  ⟨r.get (role j 0), r.get (role j 1), r.get (role j 2), r.get (role j 3)⟩

/-- At every fourth step the roles are the registers of their own names. -/
theorem Regs.inRoles_of_mod {j : Nat} (h : j % 4 = 0) (r : Regs) : r.inRoles j = r := by
  have hrole : ∀ q, role j q = xReg q := fun q => xReg_congr _ _ (by omega)
  rw [Regs.inRoles, hrole, hrole, hrole, hrole]
  rfl

/-- One step of the fixed-register form is one step of the renaming form on the values in the roles: the register written is in
role `rb` of the next step, the others have moved on by one role (R145). -/
theorem inRoles_stepRegs (j : Nat) (w : Vector Word 16) (r : Regs) :
    (stepRegs .md5 j w r).inRoles (j + 1) = renamedStep j w (r.inRoles j) := by
  obtain ⟨ha, hb, hc, hd, hna, hnb, hnc, hnd⟩ := role_eqs j
  obtain ⟨hneb, hnec, hned⟩ := roles_ne_dest (destOf j)
  rw [stepRegs, md5Update_destOf, Regs.inRoles, hna, hnb, hnc, hnd, ha, hb, hc, hd]
  simp only [Regs.get_set, if_pos, if_neg hneb, if_neg hnec, if_neg hned]
  rw [renamedStep, Regs.inRoles, ha, hb, hc, hd]

/-- After any number of steps the renaming form holds the values in the roles of the next step. -/
theorem renamedSteps_eq_inRoles (w : Vector Word 16) (r : Regs) (n : Nat) :
    renamedSteps w r n = (stepsRegs .md5 w r n).inRoles n := by
  induction n with
  | zero => exact (Regs.inRoles_of_mod rfl r).symm
  | succ n ih => rw [renamedSteps, ih, stepsRegs, inRoles_stepRegs]

/-- Settles O25: by induction on the number of steps; every fourth time the roles have come round. -/
theorem renamingFormOfTheMd5StepAgrees : Obligations.RenamingFormOfTheMd5StepAgrees := by
  unfold Obligations.RenamingFormOfTheMd5StepAgrees
  intro w r n
  rw [renamedSteps_eq_inRoles]
  exact ⟨⟨rfl, rfl, rfl, rfl⟩, fun h => Regs.inRoles_of_mod h _⟩

end Sys2Proof.Machine
end

section
/-! SUPPORT. The 32-bit functions bit by bit, and the obligations about them (O26, O27). -/

namespace Sys2Proof.Machine

theorem fnF_getLsbD (x y z : Word) (i : Nat) (h : i < 32) :
    (fnF x y z).getLsbD i = if x.getLsbD i then y.getLsbD i else z.getLsbD i := by
  simp only [fnF, BitVec.getLsbD_or, BitVec.getLsbD_and, BitVec.getLsbD_not, h, decide_true, Bool.true_and]
  cases x.getLsbD i <;> simp

theorem fnG5_getLsbD (x y z : Word) (i : Nat) (h : i < 32) :
    (fnG5 x y z).getLsbD i = if z.getLsbD i then x.getLsbD i else y.getLsbD i := by
  simp only [fnG5, BitVec.getLsbD_or, BitVec.getLsbD_and, BitVec.getLsbD_not, h, decide_true, Bool.true_and]
  cases z.getLsbD i <;> simp

/-- Majority of three bits as a count (43_md4.md R171). -/
theorem majority_eq_decide :
    ∀ a b c : Bool, (a && b || a && c || b && c) = decide (2 ≤ a.toNat + b.toNat + c.toNat) := by decide

/-- Parity of three bits as a count (42_md5.md R141). -/
theorem parity_eq_decide :
    ∀ a b c : Bool, (a ^^ b ^^ c) = decide ((a.toNat + b.toNat + c.toNat) % 2 = 1) := by decide

theorem fnG4_getLsbD (x y z : Word) (i : Nat) :
    (fnG4 x y z).getLsbD i = decide (2 ≤ (x.getLsbD i).toNat + (y.getLsbD i).toNat + (z.getLsbD i).toNat) := by
  simp only [fnG4, BitVec.getLsbD_or, BitVec.getLsbD_and]
  exact majority_eq_decide _ _ _

theorem fnH_getLsbD (x y z : Word) (i : Nat) :
    (fnH x y z).getLsbD i =
      decide (((x.getLsbD i).toNat + (y.getLsbD i).toNat + (z.getLsbD i).toNat) % 2 = 1) := by
  simp only [fnH, BitVec.getLsbD_xor]
  exact parity_eq_decide _ _ _

theorem fnI_getLsbD (x y z : Word) (i : Nat) (h : i < 32) :
    (fnI x y z).getLsbD i = (y.getLsbD i ^^ (x.getLsbD i || !z.getLsbD i)) := by
  simp only [fnI, BitVec.getLsbD_xor, BitVec.getLsbD_or, BitVec.getLsbD_not, h, decide_true, Bool.true_and]

/-- Settles O26: function by function, each from its bitwise definition. -/
theorem roundFunctionsActBitByBit : Obligations.RoundFunctionsActBitByBit := by
  unfold Obligations.RoundFunctionsActBitByBit
  exact fun x y z i h => ⟨fnF_getLsbD x y z i h, fnG5_getLsbD x y z i h, fnG4_getLsbD x y z i, fnH_getLsbD x y z i,
    fnI_getLsbD x y z i h⟩

/-- A bit of a rotated word comes from the left shift or from the right shift (00_scope.md R16). -/
theorem rotl32_getLsbD (x : Word) (s k : Nat) (h : k < 32) :
    (rotl32 x s).getLsbD k = (!decide (k < s) && x.getLsbD (k - s) || x.getLsbD (32 - s + k)) := by
  simp only [rotl32, BitVec.getLsbD_or, BitVec.getLsbD_shiftLeft, BitVec.getLsbD_ushiftRight, h, decide_true,
    Bool.true_and]

/-- Settles O27: a bit that stays within the word comes from the left shift, one that leaves it comes back by the right shift. -/
theorem rotationMovesEveryBit : Obligations.RotationMovesEveryBit := by
  unfold Obligations.RotationMovesEveryBit
  intro x s i hs hs' hi
  rw [rotl32_getLsbD x s _ (Nat.mod_lt _ (by decide))]
  rcases Nat.lt_or_ge (i + s) 32 with hstay | hwrap
  · have hbeyond : x.getLsbD (32 - s + (i + s)) = false := BitVec.getLsbD_of_ge _ _ (by omega)
    rw [Nat.mod_eq_of_lt hstay, hbeyond, decide_eq_false (by omega), Nat.add_sub_cancel]
    simp
  · have hplace : (i + s) % 32 = i + s - 32 := by omega
    rw [hplace, decide_eq_true (by omega), show 32 - s + (i + s - 32) = i by omega]
    simp

end Sys2Proof.Machine
end

section
/-! SUPPORT. Where the parts of a padded message fall in its blocks, and the obligation about them (O36). -/

namespace Sys2Proof.Machine

theorem pad_length_eq_blocks (m : List Byte) : (pad m).length = 64 * numBlocks (pad m) := by
  rw [pad_length_eq, numBlocks_pad_eq]

/-- Byte `j` of block `i` of a padded stream (41_padding.md R123). -/
theorem blockAt_getElem? (pbs : List Byte) (i : Nat) {j : Nat} (h : j < 64) :
    (blockAt pbs i)[j]? = pbs[64 * i + j]? := by
  rw [blockAt, slice, List.getElem?_take_of_lt h, List.getElem?_drop]

/-- The byte after the message is 0x80 (R120). -/
theorem pad_getElem?_length (m : List Byte) : (pad m)[m.length]? = some 0x80 :=
  (pad_getElem?_after_message m 0).trans (padTail_getElem?_zero m)

/-- The last block is the one of 0x80 where that leaves room for the length field (R123). -/
theorem last_block_index (m : List Byte) :
    numBlocks (pad m) - 1 = if m.length % 64 ≤ 55 then m.length / 64 else m.length / 64 + 1 := by
  rw [numBlocks_pad_eq]
  split <;> omega

/-- Settles O36: the lengths of the parts, and the byte after the message by its block. -/
theorem paddedMessageIsWholeBlocks : Obligations.PaddedMessageIsWholeBlocks := by
  unfold Obligations.PaddedMessageIsWholeBlocks
  intro m
  refine ⟨?parts, pad_length_eq_blocks m, numBlocks_pad_eq m, last_block_index m, ?marker⟩
  case parts =>
    rw [pad, padWith_length]
    omega
  case marker =>
    rw [blockAt_getElem? _ _ (Nat.mod_lt _ (by decide)), Nat.div_add_mod, pad_getElem?_length]

end Sys2Proof.Machine
end
